-- ==== Sys2Proof/Word.lean ====
section
/-! DEFINITION. The words of the simple-vlc transceiver: the 8-bit unit, the host command word, the logic level. -/

namespace Sys2Proof

/-- One 8-bit unit (00_scope.md section 6): a value 0..255, what one frame carries. -/
abbrev Byte := BitVec 8

/-- The host command word `cmd` (R65): bits 9..8 the command code, bits 7..0 the operand of SEND. -/
abbrev CmdWord := BitVec 10

/-- A logic level (R6): `true` is 1, high, the brighter channel state; `false` is 0, low. -/
abbrev Level := Bool

end Sys2Proof
end

