-- ==== Sys2Proof/Syntax.lean ====
section
/-! DEFINITION. The 33 operations of spec/opcode_table.json (R60), one constructor each. -/

namespace Sys2Proof

/-- An operation of the block (R60). An internal operation carries no operand bits (R70); where the spec writes one
with an argument, the argument is the wire named in its docstring (log 4). -/
inductive Instr where
  /-- `NOP`, host command (R83). -/
  | nop
  /-- `SEND b`, host command (R85). -/
  | send (b : Byte)
  /-- `BER_RESET`, host command (R84). -/
  | berReset
  /-- The reserved command code 11 (R67). -/
  | cmdReserved
  /-- `FRAME`, wire symbol: ten segments carrying the unit `b` (R61). -/
  | frame (b : Byte)
  /-- `IDLE`, wire symbol: one tick of high outside any frame (R63). -/
  | idle
  /-- `POLL` (R82). -/
  | poll
  /-- `TAIL` (R86). -/
  | tail
  /-- `WAIT` (R87). -/
  | wait
  /-- `SAMPLE` (R100); its result is the wire `level`. -/
  | sample
  /-- `EDGE` (R101). -/
  | edge
  /-- `DEC_START` (R111). -/
  | decStart
  /-- `DEC_GUARD` (R112). -/
  | decGuard
  /-- `DEC_SAMPLE` (R114). -/
  | decSample
  /-- `DEC_RETURN` (R115). -/
  | decReturn
  /-- `FRAME_START(b)` (R131); `b` is the wire `frameUnit`. -/
  | frameStart
  /-- `SEG_ADVANCE` (R132). -/
  | segAdvance
  /-- `FRAME_END` (R133). -/
  | frameEnd
  /-- `BURST_END` (R134). -/
  | burstEnd
  /-- `SETTLE_END` (R150). -/
  | settleEnd
  /-- `DELIVER(dec_abort, dec_data)` (R156); its operands are the wires of R37. -/
  | deliver
  /-- `APPEND(u)` (R157); `u` is the wire `decData`. -/
  | append
  /-- `COMPLETE_TERM(u)` (R158); `u` is the wire `decData`. -/
  | completeTerm
  /-- `COMPLETE_IDLE` (R159). -/
  | completeIdle
  /-- `COMPLETE(cause)` (R160); `cause` is the wire of that name. -/
  | complete
  /-- `ACT_NONE` (R161). -/
  | actNone
  /-- `ACT_BER` (R162). -/
  | actBer
  /-- `ACT_RELAY` (R163). -/
  | actRelay
  /-- `CLEAR` (R164). -/
  | clear
  /-- `COMPARE(ref, rcv)` (R180); its result is the pair of wires `cmpBits`, `cmpErrs`. -/
  | compare
  /-- `ACCUMULATE(bits, errs)` (R181); its operands are the wires `cmpBits`, `cmpErrs`. -/
  | accumulate
  /-- `BER_CLEAR` (R183). -/
  | berClear
  /-- `BER_RATIO` (R184); its result is the wire `ratio`. -/
  | berRatio
deriving DecidableEq, Repr

/-- What a host command word asks for (R66). -/
inductive Command where
  | nop
  | send (b : Byte)
  | berReset
  | reserved
deriving DecidableEq, Repr

/-- The operation a command stands for. -/
def Command.toInstr : Command → Instr
  | .nop => .nop
  | .send b => .send b
  | .berReset => .berReset
  | .reserved => .cmdReserved

end Sys2Proof
end

