-- ==== Sys2Proof/Decode.lean ====
section
/-! DEFINITION. The three encodings of 30_encoding.md: the host command word (R65, R66), the wire symbols (R61, R63)
and the identifiers of the internal operations (R70); the decoder, total and rejecting by name, then the encoder. -/

namespace Sys2Proof

/-- A word in one of the encodings. The formats live on different carriers (the `cmd` port, the optical channel,
traces), so a word is read in a known format: the same bits mean different things in different formats. -/
inductive Code where
  /-- A host command word (R65). -/
  | cmd (w : CmdWord)
  /-- The ten segment levels of one frame, bit `k` the level of segment `k`, bit 0 first in time (R61). -/
  | frame (w : BitVec 10)
  /-- The channel level of one tick outside any frame (R63). -/
  | level (l : BitVec 1)
  /-- An operation identifier OP_ID (R70). -/
  | opId (w : BitVec 5)
deriving DecidableEq, Repr

/-- Why a word is no operation of its format. -/
inductive DecodeError where
  /-- Segment 0 is high: no start segment (R61). -/
  | startNotLow
  /-- Segment 9 is low: not the symbol FRAME (R61). The RECEIVER does not check this (R69); the symbol has it. -/
  | stopNotHigh
  /-- A low tick is not the symbol IDLE (R63). -/
  | levelLow
  /-- Identifiers 27 to 31 are unused (R70). -/
  | unusedOpId
  /-- The number does not fit the format's width. -/
  | tooWide
deriving DecidableEq, Repr

/-! ### Host commands -/

/-- `cmd[9:8]`, the command code (R65). -/
def cmdOp (w : CmdWord) : BitVec 2 := w.extractLsb' 8 2

/-- `cmd[7:0]`, the operand of SEND (R65). -/
def cmdData (w : CmdWord) : Byte := w.extractLsb' 0 8

/-- R66: command decode. Every word has one meaning; the data bits matter to SEND alone. -/
def decodeCommand (w : CmdWord) : Command :=
  match cmdOp w with
  | 0#2 => .nop
  | 1#2 => .send (cmdData w)
  | 2#2 => .berReset
  | 3#2 => .reserved

/-! ### Wire symbols -/

/-- R61: a frame word has bit 0 low and bit 9 high; the unit is bits 8..1. -/
def decodeFrame (w : BitVec 10) : Except DecodeError Instr :=
  if w.getLsbD 0 then .error .startNotLow
  else if !w.getLsbD 9 then .error .stopNotHigh
  else .ok (.frame (w.extractLsb' 1 8))

/-- R63: one tick of high outside any frame is IDLE. -/
def decodeLevel (l : BitVec 1) : Except DecodeError Instr :=
  if l.getLsbD 0 then .ok .idle else .error .levelLow

/-! ### Operation identifiers -/

/-- The table of R70. -/
def opOfId : Nat → Option Instr
  | 0 => some .poll
  | 1 => some .tail
  | 2 => some .wait
  | 3 => some .sample
  | 4 => some .edge
  | 5 => some .decStart
  | 6 => some .decGuard
  | 7 => some .decSample
  | 8 => some .decReturn
  | 9 => some .frameStart
  | 10 => some .segAdvance
  | 11 => some .frameEnd
  | 12 => some .burstEnd
  | 13 => some .settleEnd
  | 14 => some .deliver
  | 15 => some .append
  | 16 => some .completeTerm
  | 17 => some .completeIdle
  | 18 => some .complete
  | 19 => some .actNone
  | 20 => some .actBer
  | 21 => some .actRelay
  | 22 => some .clear
  | 23 => some .compare
  | 24 => some .accumulate
  | 25 => some .berClear
  | 26 => some .berRatio
  | _ => none

/-- The identifier's operation; 27..31 are unused (R70). -/
def decodeOpId (w : BitVec 5) : Except DecodeError Instr :=
  match opOfId w.toNat with
  | some i => .ok i
  | none => .error .unusedOpId

/-- The decoder: the operation a word is in its format, or the reason it is none. -/
def decode : Code → Except DecodeError Instr
  | .cmd w => .ok (decodeCommand w).toInstr
  | .frame w => decodeFrame w
  | .level l => decodeLevel l
  | .opId w => decodeOpId w

/-! ### From bytes

No memory holds these words (R55); where they are written as bytes, the first byte holds bits 7..0. -/

/-- The four shapes of a word. -/
inductive Format where
  | cmd
  | frame
  | level
  | opId
deriving DecidableEq, Repr

/-- The number a byte sequence stands for, its first byte least significant. -/
def natOfBytes : List Byte → Nat
  | [] => 0
  | b :: bs => b.toNat + 256 * natOfBytes bs

/-- The word of a number in a format, refused if the number does not fit the format's width. -/
def Code.ofNat (f : Format) (n : Nat) : Except DecodeError Code :=
  match f with
  | .cmd => if n < 2 ^ 10 then .ok (.cmd (BitVec.ofNat 10 n)) else .error .tooWide
  | .frame => if n < 2 ^ 10 then .ok (.frame (BitVec.ofNat 10 n)) else .error .tooWide
  | .level => if n < 2 ^ 1 then .ok (.level (BitVec.ofNat 1 n)) else .error .tooWide
  | .opId => if n < 2 ^ 5 then .ok (.opId (BitVec.ofNat 5 n)) else .error .tooWide

/-- The operation a number is in a format. -/
def decodeNat (f : Format) (n : Nat) : Except DecodeError Instr :=
  match Code.ofNat f n with
  | .ok c => decode c
  | .error e => .error e

/-- The operation any bytes are in a format. -/
def decodeBytes (f : Format) (bs : List Byte) : Except DecodeError Instr := decodeNat f (natOfBytes bs)

/-! ### Encoder -/

/-- The command word of a command, its ignored bits 0 (R66). -/
def encodeCommand : Command → CmdWord
  | .nop => 0#2 ++ 0#8
  | .send b => 1#2 ++ b
  | .berReset => 2#2 ++ 0#8
  | .reserved => 3#2 ++ 0#8

/-- R61: the word of the frame of `b`, `1hgfedcba0`. -/
def frameWord (b : Byte) : BitVec 10 := 1#1 ++ b ++ 0#1

/-- The encoder: the word of an operation, by R61, R63, R66 and the table of R70. -/
def encode (i : Instr) : Code :=
  match i with
  | .nop => .cmd (encodeCommand .nop)
  | .send b => .cmd (encodeCommand (.send b))
  | .berReset => .cmd (encodeCommand .berReset)
  | .cmdReserved => .cmd (encodeCommand .reserved)
  | .frame b => .frame (frameWord b)
  | .idle => .level 1#1
  | .poll => .opId 0#5
  | .tail => .opId 1#5
  | .wait => .opId 2#5
  | .sample => .opId 3#5
  | .edge => .opId 4#5
  | .decStart => .opId 5#5
  | .decGuard => .opId 6#5
  | .decSample => .opId 7#5
  | .decReturn => .opId 8#5
  | .frameStart => .opId 9#5
  | .segAdvance => .opId 10#5
  | .frameEnd => .opId 11#5
  | .burstEnd => .opId 12#5
  | .settleEnd => .opId 13#5
  | .deliver => .opId 14#5
  | .append => .opId 15#5
  | .completeTerm => .opId 16#5
  | .completeIdle => .opId 17#5
  | .complete => .opId 18#5
  | .actNone => .opId 19#5
  | .actBer => .opId 20#5
  | .actRelay => .opId 21#5
  | .clear => .opId 22#5
  | .compare => .opId 23#5
  | .accumulate => .opId 24#5
  | .berClear => .opId 25#5
  | .berRatio => .opId 26#5

/-! ### The opcode table's rows -/

/-- A row of spec/opcode_table.json: its `match` and its `mask`. -/
structure Row where
  pattern : Nat
  mask : Nat
deriving DecidableEq, Repr

/-- The bits of a word as a number, bit 0 least significant. -/
def Code.toNat : Code → Nat
  | .cmd w => w.toNat
  | .frame w => w.toNat
  | .level l => l.toNat
  | .opId w => w.toNat

/-- The row of spec/opcode_table.json an operation stands for. -/
def tableRow : Instr → Row
  | .nop => ⟨0x000, 0x300⟩
  | .send _ => ⟨0x100, 0x300⟩
  | .berReset => ⟨0x200, 0x300⟩
  | .cmdReserved => ⟨0x300, 0x300⟩
  | .frame _ => ⟨0x200, 0x201⟩
  | .idle => ⟨0x1, 0x1⟩
  | .poll => ⟨0x00, 0x1F⟩
  | .tail => ⟨0x01, 0x1F⟩
  | .wait => ⟨0x02, 0x1F⟩
  | .sample => ⟨0x03, 0x1F⟩
  | .edge => ⟨0x04, 0x1F⟩
  | .decStart => ⟨0x05, 0x1F⟩
  | .decGuard => ⟨0x06, 0x1F⟩
  | .decSample => ⟨0x07, 0x1F⟩
  | .decReturn => ⟨0x08, 0x1F⟩
  | .frameStart => ⟨0x09, 0x1F⟩
  | .segAdvance => ⟨0x0A, 0x1F⟩
  | .frameEnd => ⟨0x0B, 0x1F⟩
  | .burstEnd => ⟨0x0C, 0x1F⟩
  | .settleEnd => ⟨0x0D, 0x1F⟩
  | .deliver => ⟨0x0E, 0x1F⟩
  | .append => ⟨0x0F, 0x1F⟩
  | .completeTerm => ⟨0x10, 0x1F⟩
  | .completeIdle => ⟨0x11, 0x1F⟩
  | .complete => ⟨0x12, 0x1F⟩
  | .actNone => ⟨0x13, 0x1F⟩
  | .actBer => ⟨0x14, 0x1F⟩
  | .actRelay => ⟨0x15, 0x1F⟩
  | .clear => ⟨0x16, 0x1F⟩
  | .compare => ⟨0x17, 0x1F⟩
  | .accumulate => ⟨0x18, 0x1F⟩
  | .berClear => ⟨0x19, 0x1F⟩
  | .berRatio => ⟨0x1A, 0x1F⟩

/-! ### The table's words

spec/opcode_table.json lists rows of three formats side by side, and a bare pair (bits, width) does not say the
format. Log 6 says how the format is chosen. -/

/-- The identifier in a table word of format OPID. spec/98_reader.md: the reader's own field `op_id` of a row (one
bit, at the place whose number is the identifier) is not in the spec's words, so that bit is not looked at. -/
def tableOpId (w : Nat) : Option Instr :=
  if w < 32 ∨ w = w % 32 + 2 ^ (w % 32) then opOfId (w % 32) else none

/-- A command word whose ignored bits are 0: what `encode` gives. -/
def isPlainCommand (w : Nat) : Bool :=
  decide (w = 0x000) || (decide (0x100 ≤ w) && decide (w < 0x200)) || decide (w = 0x200) || decide (w = 0x300)

/-- What is left of an answer of the decoder when the reason of a rejection is dropped. -/
def okOnly : Except DecodeError Instr → Option Instr
  | .ok i => some i
  | .error _ => none

/-- The operation of a word of spec/opcode_table.json. DESIGN CHOICE (log 6): below 5 bits the format is the wire
level. A word of one byte, or of three or four, is an identifier. Of the words of two bytes, 8..15 and those too
wide for a command are identifiers, a command word with its ignored bits 0 is a command, another word that is a
frame is a frame, and the rest are commands. -/
def decodeTableWord (nbits w : Nat) : Option Instr :=
  if nbits < 5 then okOnly (decodeNat .level w)
  else if nbits ≤ 8 then tableOpId w
  else if 16 < nbits then tableOpId w
  else if (decide (8 ≤ w) && decide (w < 16)) || decide (1024 ≤ w) then tableOpId w
  else if isPlainCommand w then okOnly (decodeNat .cmd w)
  else match okOnly (decodeNat .frame w) with
    | some i => some i
    | none => okOnly (decodeNat .cmd w)

end Sys2Proof
end

