-- ==== Sys2Proof/Config.lean ====
section
/-! DEFINITION. The configuration of a node (R1, R28; 00_scope.md section 4) and the model's free value. -/

namespace Sys2Proof

/-- The message completion policy (R72: symbolic, no bit code). -/
inductive Policy where
  | terminator
  | idleTimeout
deriving DecidableEq, Repr

/-- The completion action ACTION (00_scope.md section 4.2; R160). -/
inductive Action where
  | none
  | ber
  | relay
deriving DecidableEq, Repr

/-- One value for every parameter of 00_scope.md section 4. No operation writes a parameter (R56).
MSG_CAP, TIME_W and CNT_W have no field: they are infinite or unbounded in the model (R57, R17, R26; log 12). -/
structure Cfg where
  /-- `T_BIT`, the bit period in ticks. -/
  tBit : Nat
  /-- `THRESHOLD`, the sampler's fixed threshold. -/
  threshold : Nat
  /-- `POLICY`. -/
  policy : Policy
  /-- `T_IDLE`, the idle threshold in ticks. -/
  tIdle : Nat
  /-- `TERMINATOR`. -/
  terminator : Byte
  /-- `REF`, the reference message of BER mode: the read-only memory REF of R40 and R42. -/
  ref : List Byte
  /-- `GUARD_EN`. -/
  guardEn : Bool
  /-- `T_SETTLE`, in ticks. -/
  tSettle : Nat
  /-- `ACTION`. -/
  action : Action
  /-- `BER_PER_MESSAGE`. -/
  berPerMessage : Bool
  /-- `NUL_SENTINEL`. -/
  nulSentinel : Bool
  /-- `INT_W`, bits of one intensity sample. -/
  intW : Nat
deriving DecidableEq, Repr

/-- FREE VALUE (log 2): the intensity the environment supplies at a tick for which no input is listed. R46: "The
model takes `intensity` as a free input". It has no body, so no proof can use its value. It is indexed by `now`, the
ticks since reset, so two runs of a node with a later reset between them share it (DESIGN CHOICE, unsafe, logs 2 and
14). -/
opaque Config.freeIntensity (tick : Nat) : Nat

/-- DESIGN CHOICE (log 1, unsafe): the configuration State.reset carries. GUARD_EN, T_SETTLE, BER_PER_MESSAGE and
NUL_SENTINEL are the defaults of 00_scope.md section 4.2; THRESHOLD, INT_W, ACTION, POLICY and TERMINATOR are those of
95_test_vectors.md section 1; T_BIT and T_IDLE are those of its programs P1 and P2; REF is empty. No statement rests
on these values. -/
def Config.atReset : Cfg :=
  { tBit := 4, threshold := 511, policy := .terminator, tIdle := 20, terminator := 0x0A#8, ref := [],
    guardEn := true, tSettle := 0, action := .none, berPerMessage := false, nulSentinel := true, intW := 10 }

end Sys2Proof
end

