-- ==== Sys2Proof/Machine/State.lean ====
section
/-! DEFINITION. The state of one node (10_state.md), plain data, and its reset state (R35). -/

namespace Sys2Proof.Machine

/-- The six values of the sequencer state `ctl` (R20). -/
inductive Ctl where
  | poll
  | rxGuard
  | rxData
  | rxTrail
  | txSeg
  | settle
deriving DecidableEq, Repr

/-- What started the burst in progress (R19). -/
inductive BurstKind where
  | host
  | relay
deriving DecidableEq, Repr

/-- Why a message completed (R160). -/
inductive Cause where
  | term
  | idle
deriving DecidableEq, Repr

/-- The events of R33. -/
inductive Event where
  | start
  | abort
  | sample (i : Fin 8) (level : Level)
  | unit (b : Byte)
  | append (b : Byte)
  | drop (b : Byte)
  | msg (units : List Byte) (cause : Cause)
  | ber (bits errs total errors : Nat)
  | clear
  | txStart (b : Byte)
  | txDone
deriving DecidableEq, Repr

/-- The inputs of one tick: `cmd(t)` (R31) and `intensity(t)` (R30). -/
structure Input where
  cmd : CmdWord
  intensity : Nat
deriving DecidableEq, Repr

/-- What passes between operations inside one step: arguments and results that the spec writes as such and that no
register holds (log 4). All are at rest between ticks. -/
structure Wires where
  /-- The result of SAMPLE (R100). -/
  level : Level
  /-- The argument of FRAME_START (R131). -/
  frameUnit : Byte
  /-- `dec_abort` of the decoder's result (R37). -/
  decAbort : Bool
  /-- `dec_data` of the decoder's result (R37); the argument of APPEND and COMPLETE_TERM (R156 to R158). -/
  decData : Byte
  /-- The argument of COMPLETE (R160). -/
  cause : Cause
  /-- `bits` of the result of COMPARE (R180). -/
  cmpBits : Nat
  /-- `errs` of the result of COMPARE (R180). -/
  cmpErrs : Nat
  /-- The result of BER_RATIO (R184): no value, or an exact rational (log 16). -/
  ratio : Option Rat
deriving DecidableEq, Repr

/-- The wires between ticks. -/
def Wires.rest : Wires :=
  { level := false, frameUnit := 0#8, decAbort := false, decData := 0#8, cause := .term, cmpBits := 0, cmpErrs := 0,
    ratio := none }

/-- The state of one node (R10 to R27), its configuration (R28), and the model's own interface fields. -/
structure State where
  /-- R21. -/
  previousLevel : Level
  /-- R22. -/
  currentLevel : Level
  /-- R23, the Half-Duplex Arbiter's flag. -/
  isTransmitting : Bool
  /-- R24, the level the node emits. -/
  txLevel : Level
  /-- R20. -/
  ctl : Ctl
  /-- R16. -/
  timer : Nat
  /-- R11. -/
  rxShift : Byte
  /-- R13, a natural 0..7 (log 11). -/
  rxIdx : Fin 8
  /-- R12. -/
  txHold : Byte
  /-- R14, a natural 0..9 (log 11). -/
  txSeg : Fin 10
  /-- R15. -/
  relayIdx : Nat
  /-- R19. -/
  burstKind : BurstKind
  /-- R25, the memory MSG of R40: unit `k` at index `k`. -/
  msgBuf : List Byte
  /-- R18. -/
  lastAppendTime : Nat
  /-- R26. -/
  totalBitsCompared : Nat
  /-- R27. -/
  bitErrors : Nat
  /-- R17, ticks since reset. -/
  now : Nat
  /-- The configuration (R28), which no operation writes (R56; log 1). -/
  cfg : Cfg
  /-- MODEL's own (log 2): the inputs of this tick (the head) and of the ticks after it. -/
  inputs : List Input
  /-- MODEL's own (log 5): the intensity this node's sensor reads for a high channel (`I_HIGH` of R52). -/
  iHigh : Nat
  /-- MODEL's own (log 5): the intensity this node's sensor reads for a low channel (`I_LOW` of R52). -/
  iLow : Nat
  /-- MODEL's own (log 3): the event output of the latest step, in order (R33). -/
  events : List Event
  /-- MODEL's own (log 4): arguments and results inside one step. -/
  wires : Wires
deriving DecidableEq, Repr

/-- Why the machine would stop with a fault. No operation of the spec raises one (R200). -/
inductive Fault where
  /-- Raised by ACT_RELAY, COMPLETE and COMPLETE_TERM when they would relay an empty buffer: unit 0 of MSG does not
  exist (R40). Safe: R165, a relay never starts with nothing to send, and no step reaches it (log 9). -/
  | msgIndexOutOfRange
deriving DecidableEq, Repr

/-- Why the model gives a situation no meaning. -/
inductive Refusal where
  /-- Raised by an arm of exec whose operation has no meaning yet. Safe. -/
  | notModelled (mnemonic : String)
  /-- Raised by CMD_RESERVED and POLL: the reserved command code at a tick with ctl = POLL (R67, U1). Safe: the spec
  itself refuses. -/
  | reservedCommand
  /-- Raised by step: the configuration is not legal (R1, U7). Safe: the spec itself refuses. -/
  | illegalConfiguration
  /-- Raised by step: this tick's listed intensity is not below 2^INT_W (R30, U8). Safe: the spec itself refuses. -/
  | intensityOutOfRange
  /-- Raised by WAIT with timer 0: R87 runs it with timer > 0 only. Safe: no step reaches it (log 8). -/
  | waitWithTimerZero
  /-- Raised by SEG_ADVANCE in segment 9: R132 runs it with tx_seg < 9 only, and no segment follows the stop segment.
  Safe: no step reaches it (log 8). -/
  | segmentPastStop
deriving DecidableEq, Repr

/-- The reset state of a node under a configuration: the table of R35. The inputs are not the node's; nothing is
listed. -/
def State.resetWith (c : Cfg) : State :=
  { previousLevel := false, currentLevel := false, isTransmitting := false, txLevel := true,
    ctl := .poll, timer := 0, rxShift := 0#8, rxIdx := 0, txHold := 0#8, txSeg := 0, relayIdx := 0, burstKind := .host,
    msgBuf := [], lastAppendTime := 0, totalBitsCompared := 0, bitErrors := 0, now := 0,
    cfg := c, inputs := [], iHigh := 800, iLow := 200, events := [], wires := Wires.rest }

/-- The machine right after reset (R35, R230), with the configuration of log 1. -/
def State.reset : State := State.resetWith Config.atReset

end Sys2Proof.Machine
end

