-- ==== Sys2Proof/Machine/Operands.lean ====
section
/-! DEFINITION. The operand forms: the inputs of a tick (R30, R31), the derived constant T_HALF (R2), the levels of a
frame (R62), the accesses to MSG and REF (R40, R45), and the 8-bit arithmetic of R187. -/

namespace Sys2Proof.Machine

/-- The inputs of this tick. DESIGN CHOICE (log 2): past the listed ones the host is taken to have nothing to ask, for
which R31 has `NOP` (unsafe: a real host may ask), and the intensity is free (R46), kept below `2^INT_W` as R30 has
it. -/
def currentInput (s : State) : Input :=
  match s.inputs with
  | [] => { cmd := 0#10, intensity := Config.freeIntensity s.now % 2 ^ s.cfg.intW }
  | i :: _ => i

/-- `cmd(t)` (R31). -/
def cmdNow (s : State) : CmdWord := (currentInput s).cmd

/-- `intensity(t)` (R30). -/
def intensityNow (s : State) : Nat := (currentInput s).intensity

/-- R2: `T_HALF = T_BIT div 2`. -/
def tHalf (c : Cfg) : Nat := c.tBit / 2

/-- `seg_level(b, k)` (R62): the level of segment `k` of the frame of `b`. -/
def segLevel (b : Byte) (k : Nat) : Level :=
  if k = 0 then false
  else if k ≤ 8 then b.getLsbD (k - 1)
  else true

/-- `v` with bit `i` written to `x`, the other seven bits kept (R114). -/
def writeBit (v : Byte) (i : Fin 8) (x : Level) : Byte :=
  if x then v ||| (1#8 <<< i.val) else v &&& ~~~(1#8 <<< i.val)

/-- `popcount` (00_scope.md section 6): the number of 1 bits. -/
def popcount (v : Byte) : Nat := (List.range 8).countP (fun i => v.getLsbD i)

/-- `MemRead(MSG, k, 1)` (R45): unit `k` of the message buffer, none past its end. -/
def msgRead (s : State) (k : Nat) : Option Byte := s.msgBuf[k]?

/-- `MemRead(REF, k, 1)` (R42): unit `k` of the reference message, none past its end. -/
def refRead (s : State) (k : Nat) : Option Byte := s.cfg.ref[k]?

/-- The unit FRAME_END sends next (R133): `msg_buf[relay_idx + 1]` in a relay burst that has one, else none. -/
def nextRelayUnit (s : State) : Option Byte :=
  match s.burstKind with
  | .host => none
  | .relay => msgRead s (s.relayIdx + 1)

/-- The inputs by which the channel shows one tick of a level to this node, the host asking nothing (R52). -/
def lightTick (s : State) (l : Level) : Input :=
  { cmd := 0#10, intensity := if l then s.iHigh else s.iLow }

/-- The inputs of one frame of `b` on the channel (R61): segments 0 to 9 in time order, each `T_BIT` ticks long, with
no gap. -/
def frameTicks (s : State) (b : Byte) : List Input :=
  (List.range 10).flatMap (fun k => List.replicate s.cfg.tBit (lightTick s (segLevel b k)))

end Sys2Proof.Machine
end

