-- ==== Sys2Proof/Machine/Flags.lean ====
section
/-! DEFINITION. The conditions and status outputs: the sampled level (R100), the start-bit event (R102), the tests of
the assembler (R156, R158, R159), and the outputs of R32. -/

namespace Sys2Proof.Machine

/-- `level(I)` (R100): 1 if `I > THRESHOLD`, unsigned and strict. -/
def level (c : Cfg) (intensity : Nat) : Level := decide (c.threshold < intensity)

/-- R102: a start-bit event, exactly when the previous poll saw high and this one sees low. -/
def startBit (previous current : Level) : Bool := previous && !current

/-- R156: the returned unit is the sentinel and is ignored. -/
def isSentinel (c : Cfg) (u : Byte) : Bool := c.nulSentinel && decide (u = 0#8)

/-- R158: the unit just appended ends the message. -/
def isTerminator (c : Cfg) (u : Byte) : Bool := decide (u = c.terminator)

/-- R159: a message is pending and no unit has been appended for longer than `T_IDLE`. -/
def idleExpired (s : State) : Bool :=
  decide (0 < s.msgBuf.length) && decide (s.cfg.tIdle < s.now - s.lastAppendTime)

/-- A completion now would relay an empty buffer; R165: no step comes here (log 9). -/
def relaysNothing (s : State) : Bool := decide (s.cfg.action = .relay) && s.msgBuf.isEmpty

/-- Output `cmd_ready` (R32, R89). -/
def cmdReady (s : State) : Bool := decide (s.ctl = .poll)

/-- Output `ber_defined` (R32, R184). -/
def berDefined (s : State) : Bool := decide (s.totalBitsCompared ≠ 0)

/-- Output `msg_len` (R32). -/
def msgLen (s : State) : Nat := s.msgBuf.length

/-- This tick's listed intensity is in the input type (R30, U8). The free intensity always is. -/
def inputLegal (s : State) : Bool :=
  match s.inputs with
  | [] => true
  | i :: _ => decide (i.intensity < 2 ^ s.cfg.intW)

end Sys2Proof.Machine
end

