-- ==== Sys2Proof/Machine/Ops.lean ====
section
/-! DEFINITION. The named operations over the state, each the pseudocode of its rule, in the order of dependence. An
operation here is a function from state to state: no operation of the block raises anything (R200), so there is no
exception to take and none to return from (R211, R212). Statements of one rule run in order, each reading what the
one before it wrote (R5). -/

namespace Sys2Proof.Machine

/-! ### Events -/

/-- `emit E` (R33): add an event to the event list of this tick. -/
def emit (e : Event) (s : State) : State := { s with events := s.events ++ [e] }

/-! ### The channel's wire symbols -/

/-- FRAME (R61): the channel carries the ten segments of the frame of `b` to this node, after what is already listed
(log 5). -/
def opFrame (b : Byte) (s : State) : State := { s with inputs := s.inputs ++ frameTicks s b }

/-- IDLE (R63): the channel carries one tick of high to this node, after what is already listed (log 5). -/
def opIdle (s : State) : State := { s with inputs := s.inputs ++ [lightTick s true] }

/-! ### Sampler -/

/-- SAMPLE (R100): the level of this tick's intensity; no register is written. -/
def opSample (s : State) : State :=
  { s with wires := { s.wires with level := level s.cfg (intensityNow s) } }

/-! ### Bit-error-rate accumulator -/

/-- R180: bits compared and mismatching bits over the common length of two messages. -/
def compareUnits (ref rcv : List Byte) : Nat × Nat :=
  (8 * min ref.length rcv.length, (List.zipWith (fun r u => popcount (r ^^^ u)) ref rcv).sum)

/-- COMPARE (R180) of REF with the message buffer; no register is written. -/
def opCompare (s : State) : State :=
  { s with wires := { s.wires with
      cmpBits := (compareUnits s.cfg.ref s.msgBuf).1, cmpErrs := (compareUnits s.cfg.ref s.msgBuf).2 } }

/-- ACCUMULATE (R181): add the comparison to the totals and report the new totals. -/
def opAccumulate (s : State) : State :=
  emit (.ber s.wires.cmpBits s.wires.cmpErrs (s.totalBitsCompared + s.wires.cmpBits) (s.bitErrors + s.wires.cmpErrs))
    { s with totalBitsCompared := s.totalBitsCompared + s.wires.cmpBits
             bitErrors := s.bitErrors + s.wires.cmpErrs }

/-- BER_CLEAR (R183). -/
def opBerClear (s : State) : State := { s with totalBitsCompared := 0, bitErrors := 0 }

/-- R184: no value with no bit compared, else the exact rational. -/
def berRatioOf (s : State) : Option Rat :=
  if s.totalBitsCompared = 0 then none else some (mkRat s.bitErrors s.totalBitsCompared)

/-- BER_RATIO (R184); no register is written. -/
def opBerRatio (s : State) : State := { s with wires := { s.wires with ratio := berRatioOf s } }

/-! ### Encoder -/

/-- FRAME_START(b) (R131). -/
def opFrameStart (s : State) : State :=
  emit (.txStart s.wires.frameUnit)
    { s with txHold := s.wires.frameUnit, isTransmitting := true, txSeg := 0, txLevel := false,
             timer := s.cfg.tBit - 1, ctl := .txSeg }

/-- FRAME_START with the argument `b` passed on its wire. -/
def startFrame (b : Byte) (s : State) : State :=
  opFrameStart { s with wires := { s.wires with frameUnit := b } }

/-- SEG_ADVANCE (R132), for `tx_seg < 9`. -/
def opSegAdvance (s : State) : State :=
  { s with txSeg := s.txSeg + 1, txLevel := segLevel s.txHold (s.txSeg.val + 1), timer := s.cfg.tBit - 1 }

/-! ### Assembler: the actions and the completion -/

/-- CLEAR (R164). -/
def opClear (s : State) : State := emit .clear { s with msgBuf := [] }

/-- ACT_NONE (R161). -/
def opActNone (s : State) : State := opClear s

/-- ACT_BER (R162). -/
def opActBer (s : State) : State :=
  opClear (opAccumulate (opCompare (if s.cfg.berPerMessage then opBerClear s else s)))

/-- ACT_RELAY (R163). With an empty buffer there is no unit 0 and nothing starts; R165: no step comes here (log 9). -/
def opActRelay (s : State) : State :=
  match msgRead s 0 with
  | none => s
  | some u => startFrame u { s with relayIdx := 0, burstKind := .relay }

/-- COMPLETE(cause) (R160). -/
def opComplete (s : State) : State :=
  let s1 := emit (.msg s.msgBuf s.wires.cause) s
  match s.cfg.action with
  | .none => opActNone s1
  | .ber => opActBer s1
  | .relay => opActRelay s1

/-- COMPLETE with its argument passed on its wire. -/
def completeWith (c : Cause) (s : State) : State :=
  opComplete { s with wires := { s.wires with cause := c } }

/-- COMPLETE_TERM(u) (R158). -/
def opCompleteTerm (s : State) : State :=
  if isTerminator s.cfg s.wires.decData then completeWith .term s else s

/-- COMPLETE_IDLE (R159). -/
def opCompleteIdle (s : State) : State :=
  if idleExpired s then completeWith .idle s else s

/-- APPEND(u) (R157). -/
def opAppend (s : State) : State :=
  let s1 := emit (.append s.wires.decData)
    { s with msgBuf := s.msgBuf ++ [s.wires.decData], lastAppendTime := s.now }
  match s.cfg.policy with
  | .terminator => opCompleteTerm s1
  | .idleTimeout => s1

/-- DELIVER(dec_abort, dec_data) (R156). -/
def opDeliver (s : State) : State :=
  if s.wires.decAbort then s
  else if isSentinel s.cfg s.wires.decData then emit (.drop s.wires.decData) s
  else opAppend s

/-- DELIVER with the decoder's result (R37) passed on its wires. -/
def deliverWith (abort : Bool) (u : Byte) (s : State) : State :=
  opDeliver { s with wires := { s.wires with decAbort := abort, decData := u } }

/-! ### The tail of an iteration -/

/-- TAIL (R86). -/
def opTail (s : State) : State :=
  match s.cfg.policy with
  | .terminator => s
  | .idleTimeout => opCompleteIdle s

/-! ### Encoder: the end of a frame and of a burst -/

/-- AFTER_BURST (R134), also run by SETTLE_END. -/
def afterBurst (s : State) : State :=
  let s1 := { s with ctl := .poll }
  match s.burstKind with
  | .relay => opClear s1
  | .host => opTail s1

/-- BURST_END (R134). -/
def opBurstEnd (s : State) : State :=
  if 0 < s.cfg.tSettle then { s with ctl := .settle, timer := s.cfg.tSettle - 1 } else afterBurst s

/-- FRAME_END (R133). -/
def opFrameEnd (s : State) : State :=
  let s1 := emit .txDone { s with isTransmitting := false }
  match nextRelayUnit s1 with
  | some u => startFrame u { s1 with relayIdx := s1.relayIdx + 1 }
  | none => opBurstEnd s1

/-- SETTLE_END (R150). -/
def opSettleEnd (s : State) : State := afterBurst s

/-! ### Decoder -/

/-- DEC_START (R111). -/
def opDecStart (s : State) : State :=
  if s.cfg.guardEn then
    { s with rxShift := 0#8, rxIdx := 0, ctl := .rxGuard, timer := tHalf s.cfg - 1 }
  else
    { s with rxShift := 0#8, rxIdx := 0, ctl := .rxData, timer := tHalf s.cfg + s.cfg.tBit - 1 }

/-- The end of the poll that raised a start-bit event (R103): `previous_level <- current_level`, `ctl <- POLL`. -/
def endDecode (s : State) : State := { s with previousLevel := s.currentLevel, ctl := .poll }

/-- DEC_GUARD (R112). -/
def opDecGuard (s : State) : State :=
  let s1 := opSample s
  if s1.wires.level then opTail (deliverWith true 0#8 (endDecode (emit .abort s1)))
  else { s1 with ctl := .rxData, timer := s.cfg.tBit - 1 }

/-- DEC_SAMPLE (R114). -/
def opDecSample (s : State) : State :=
  let s1 := opSample s
  let s2 := emit (.sample s.rxIdx s1.wires.level)
    { s1 with rxShift := writeBit s.rxShift s.rxIdx s1.wires.level, timer := s.cfg.tBit - 1 }
  if s.rxIdx.val < 7 then { s2 with rxIdx := s.rxIdx + 1 } else { s2 with ctl := .rxTrail }

/-- DEC_RETURN (R115). -/
def opDecReturn (s : State) : State :=
  opTail (deliverWith false s.rxShift (endDecode (emit (.unit s.rxShift) s)))

/-! ### Edge detector -/

/-- EDGE (R101). -/
def opEdge (s : State) : State :=
  let s1 := opSample s
  let s2 := { s1 with currentLevel := s1.wires.level }
  if startBit s2.previousLevel s1.wires.level then opDecStart (emit .start s2)
  else opTail { s2 with previousLevel := s1.wires.level }

/-! ### Sequencer -/

/-- SEND b (R85). -/
def opSend (b : Byte) (s : State) : State := startFrame b { s with burstKind := .host }

/-- What POLL does after the host command, unless it was a SEND (R82): the edge detector behind the arbiter's gate
(R147), and without it the tail. The second arm is dead in reachable states (R148) and is kept, as R82 asks. -/
def edgeOrTail (s : State) : State := if s.isTransmitting then opTail s else opEdge s

/-- WAIT (R87), for `timer > 0`. -/
def opWait (s : State) : State := { s with timer := s.timer - 1 }

/-! ### The step's frame -/

/-- R81: the operation the step of this tick performs. -/
def select (s : State) : Instr :=
  match s.ctl with
  | .poll => .poll
  | .rxGuard => if 0 < s.timer then .wait else .decGuard
  | .rxData => if 0 < s.timer then .wait else .decSample
  | .rxTrail => if 0 < s.timer then .wait else .decReturn
  | .txSeg => if 0 < s.timer then .wait else if s.txSeg.val < 9 then .segAdvance else .frameEnd
  | .settle => if 0 < s.timer then .wait else .settleEnd

/-- The event list of a tick starts empty (R33, log 3). -/
def beginTick (s : State) : State := { s with events := [] }

/-- The end of a tick: `now <- now + 1` (R81), the next tick's inputs come up, the wires are at rest (R37). -/
def endTick (s : State) : State := { s with now := s.now + 1, inputs := s.inputs.tail, wires := Wires.rest }

/-- An outcome with its next state changed. -/
def mapNext (f : State → State) (o : Host.Outcome State Fault Refusal) : Host.Outcome State Fault Refusal :=
  match o with
  | .next s => .next (f s)
  | .fault r => .fault r
  | .refused r => .refused r

/-! ### Reset applied later -/

/-- R230: a later reset discards the whole state and starts again at tick 0 under the given configuration; the
environment, which is not the node's, goes on (log 14). DESIGN CHOICE (logs 2 and 14, unsafe): the free intensity of
ticks with no listed input is indexed by `now`, which the reset sets to 0, so past the listed inputs the new run reads
the same free light, tick for tick, as the run before it; R46 leaves the two unrelated. -/
def opRestart (c : Cfg) (s : State) : State :=
  { State.resetWith c with inputs := s.inputs, iHigh := s.iHigh, iLow := s.iLow }

/-! ### Choosing the next operation from outside

What `State.withFetchWord` does (log 7): the third column of the table of R70, "selected when", made true. -/

/-- The state at a POLL tick whose host command is `w`, the light unchanged where it is listed and idle high (R63)
where it is not. -/
def presentCommand (w : CmdWord) (s : State) : State :=
  match s.inputs with
  | [] => { s with ctl := .poll, isTransmitting := false, inputs := [{ cmd := w, intensity := s.iHigh }] }
  | i :: rest => { s with ctl := .poll, isTransmitting := false, inputs := { i with cmd := w } :: rest }

/-- The state with a start-bit event due: a POLL tick with no command, after a high poll, reading low. -/
def presentEdge (s : State) : State :=
  { s with ctl := .poll, isTransmitting := false, previousLevel := true,
           inputs := { cmd := 0#10, intensity := s.iLow } :: s.inputs.tail }

/-- The state in a waiting state of the receiver whose action is due, the channel low. -/
def presentRx (c : Ctl) (s : State) : State :=
  { s with ctl := c, timer := 0, inputs := { cmd := 0#10, intensity := s.iLow } :: s.inputs.tail }

/-- The state whose decode returns the unit `u` in the next step. -/
def presentUnit (u : Byte) (s : State) : State := { presentRx .rxTrail s with rxShift := u }

/-- The state whose decode returns the terminator in the next step, with the action `a` to follow. -/
def presentMessage (a : Action) (s : State) : State :=
  presentUnit 0x0A#8 { s with cfg := { s.cfg with policy := .terminator, terminator := 0x0A#8, action := a } }

/-- The state with a pending message older than `T_IDLE` at a POLL tick. -/
def presentIdle (s : State) : State :=
  presentCommand 0#10 { s with cfg := { s.cfg with policy := .idleTimeout }, previousLevel := false,
                               msgBuf := [0x0A#8], lastAppendTime := 0, now := s.cfg.tIdle + 1 }

/-- The state in the last tick of segment `k` of a frame of a host burst. -/
def presentTx (k : Fin 10) (s : State) : State :=
  { s with ctl := .txSeg, timer := 0, isTransmitting := true, txSeg := k, burstKind := .host }

/-- The state whose next step runs the operation `i`, at the top of the step or inside it. -/
def arrange (i : Instr) (s : State) : State :=
  match i with
  | .nop => presentCommand (encodeCommand .nop) s
  | .send b => presentCommand (encodeCommand (.send b)) s
  | .berReset => presentCommand (encodeCommand .berReset) s
  | .cmdReserved => presentCommand (encodeCommand .reserved) s
  | .frame b => { presentEdge s with inputs := frameTicks s b }
  | .idle => { s with ctl := .poll, isTransmitting := false, inputs := [lightTick s true] }
  | .poll => presentCommand 0#10 s
  | .tail => presentCommand 0#10 { s with previousLevel := false }
  | .wait => { s with ctl := .rxGuard, timer := 1 }
  | .sample => presentCommand 0#10 s
  | .edge => presentCommand 0#10 s
  | .decStart => presentEdge s
  | .decGuard => presentRx .rxGuard s
  | .decSample => presentRx .rxData s
  | .decReturn => presentRx .rxTrail s
  | .frameStart => presentCommand (encodeCommand (.send s.wires.frameUnit)) s
  | .segAdvance => presentTx 0 s
  | .frameEnd => presentTx 9 s
  | .burstEnd => presentTx 9 s
  | .settleEnd => { s with ctl := .settle, timer := 0 }
  | .deliver => presentRx .rxTrail s
  | .append => presentUnit 0x01#8 s
  | .completeTerm => presentMessage s.cfg.action s
  | .completeIdle => presentIdle s
  | .complete => presentMessage s.cfg.action s
  | .actNone => presentMessage .none s
  | .actBer => presentMessage .ber s
  | .actRelay => presentMessage .relay s
  | .clear => presentMessage .none s
  | .compare => presentMessage .ber s
  | .accumulate => presentMessage .ber s
  | .berClear => presentCommand (encodeCommand .berReset) s
  | .berRatio => s
end Sys2Proof.Machine
end

