-- ==== Sys2Proof/Machine/Arbiter.lean ====
section
/-! DEFINITION. Half-Duplex Arbiter (44_arbiter.md). Its flag is set by FRAME_START and cleared by FRAME_END; its gate is in POLL. -/

namespace Sys2Proof.Machine

/-- `SETTLE_END` (R150). -/
def execSettleEnd (s : State) : Host.Outcome State Fault Refusal := .next (opSettleEnd s)

end Sys2Proof.Machine
end

