-- ==== Sys2Proof/Machine/Assembler.lean ====
section
/-! DEFINITION. Message Assembler and completion actions (45_assembler.md). -/

namespace Sys2Proof.Machine

/-- `DELIVER(dec_abort, dec_data)` (R156). -/
def execDeliver (s : State) : Host.Outcome State Fault Refusal := .next (opDeliver s)

/-- `APPEND(u)` (R157). -/
def execAppend (s : State) : Host.Outcome State Fault Refusal := .next (opAppend s)

/-- `COMPLETE_TERM(u)` (R158). It follows an append, so the buffer is not empty (R165; log 9). -/
def execCompleteTerm (s : State) : Host.Outcome State Fault Refusal :=
  if isTerminator s.cfg s.wires.decData && relaysNothing s then .fault .msgIndexOutOfRange
  else .next (opCompleteTerm s)

/-- `COMPLETE_IDLE` (R159). -/
def execCompleteIdle (s : State) : Host.Outcome State Fault Refusal := .next (opCompleteIdle s)

/-- `COMPLETE(cause)` (R160). A relay of an empty buffer has no unit 0 to read (R40, R165; log 9). -/
def execComplete (s : State) : Host.Outcome State Fault Refusal :=
  if relaysNothing s then .fault .msgIndexOutOfRange else .next (opComplete s)

/-- `ACT_NONE` (R161). -/
def execActNone (s : State) : Host.Outcome State Fault Refusal := .next (opActNone s)

/-- `ACT_BER` (R162). -/
def execActBer (s : State) : Host.Outcome State Fault Refusal := .next (opActBer s)

/-- `ACT_RELAY` (R163). An empty buffer has no unit 0 to read (R40, R165; log 9). -/
def execActRelay (s : State) : Host.Outcome State Fault Refusal :=
  if s.msgBuf.isEmpty then .fault .msgIndexOutOfRange else .next (opActRelay s)

/-- `CLEAR` (R164). -/
def execClear (s : State) : Host.Outcome State Fault Refusal := .next (opClear s)

end Sys2Proof.Machine
end

