-- ==== Sys2Proof/Machine/Ber.lean ====
section
/-! DEFINITION. Bit-Error-Rate Accumulator (46_ber.md). -/

namespace Sys2Proof.Machine

/-- `COMPARE(ref, rcv)` (R180). -/
def execCompare (s : State) : Host.Outcome State Fault Refusal := .next (opCompare s)

/-- `ACCUMULATE(bits, errs)` (R181). -/
def execAccumulate (s : State) : Host.Outcome State Fault Refusal := .next (opAccumulate s)

/-- `BER_CLEAR` (R183). -/
def execBerClear (s : State) : Host.Outcome State Fault Refusal := .next (opBerClear s)

/-- `BER_RATIO` (R184). -/
def execBerRatio (s : State) : Host.Outcome State Fault Refusal := .next (opBerRatio s)

end Sys2Proof.Machine
end

