-- ==== Sys2Proof/Machine/Channel.lean ====
section
/-! DEFINITION. The wire symbols: what the channel carries to this node (R61, R63; log 5). -/

namespace Sys2Proof.Machine

/-- `FRAME` (R61). -/
def execFrame (b : Byte) (s : State) : Host.Outcome State Fault Refusal := .next (opFrame b s)

/-- `IDLE` (R63). -/
def execIdle (s : State) : Host.Outcome State Fault Refusal := .next (opIdle s)

end Sys2Proof.Machine
end

