-- ==== Sys2Proof/Machine/Decoder.lean ====
section
/-! DEFINITION. Bit-Frame Decoder (42_decoder.md). -/

namespace Sys2Proof.Machine

/-- `DEC_START` (R111). -/
def execDecStart (s : State) : Host.Outcome State Fault Refusal := .next (opDecStart s)

/-- `DEC_GUARD` (R112). -/
def execDecGuard (s : State) : Host.Outcome State Fault Refusal := .next (opDecGuard s)

/-- `DEC_SAMPLE` (R114). -/
def execDecSample (s : State) : Host.Outcome State Fault Refusal := .next (opDecSample s)

/-- `DEC_RETURN` (R115). -/
def execDecReturn (s : State) : Host.Outcome State Fault Refusal := .next (opDecReturn s)

end Sys2Proof.Machine
end

