-- ==== Sys2Proof/Machine/Encoder.lean ====
section
/-! DEFINITION. Byte-Frame Encoder (43_encoder.md). -/

namespace Sys2Proof.Machine

/-- `FRAME_START(b)` (R131). -/
def execFrameStart (s : State) : Host.Outcome State Fault Refusal := .next (opFrameStart s)

/-- `SEG_ADVANCE` (R132): runs with `tx_seg < 9` only (log 8). -/
def execSegAdvance (s : State) : Host.Outcome State Fault Refusal :=
  if s.txSeg.val < 9 then .next (opSegAdvance s) else .refused .segmentPastStop

/-- `FRAME_END` (R133). -/
def execFrameEnd (s : State) : Host.Outcome State Fault Refusal := .next (opFrameEnd s)

/-- `BURST_END` (R134). -/
def execBurstEnd (s : State) : Host.Outcome State Fault Refusal := .next (opBurstEnd s)

end Sys2Proof.Machine
end

