-- ==== Sys2Proof/Machine/Sampler.lean ====
section
/-! DEFINITION. Binary Channel Sampler and Edge Detector (41_sampler_edge.md). -/

namespace Sys2Proof.Machine

/-- `SAMPLE` (R100). -/
def execSample (s : State) : Host.Outcome State Fault Refusal := .next (opSample s)

/-- `EDGE` (R101). -/
def execEdge (s : State) : Host.Outcome State Fault Refusal := .next (opEdge s)

end Sys2Proof.Machine
end

