-- ==== Sys2Proof/Machine/Sequencer.lean ====
section
/-! DEFINITION. The sequencer: host commands, the polling loop, the tail and the wait (40_sequencer.md). -/

namespace Sys2Proof.Machine

/-- `NOP` (R83): nothing. -/
def execNop (s : State) : Host.Outcome State Fault Refusal := .next s

/-- `SEND b` (R85). At a tick with `ctl != POLL` a command is not looked at (R90; log 15). -/
def execSend (b : Byte) (s : State) : Host.Outcome State Fault Refusal :=
  if s.ctl = .poll then .next (opSend b s) else .next s

/-- `BER_RESET` (R84): BER_CLEAR. At a tick with `ctl != POLL` a command is not looked at (R90; log 15). -/
def execBerReset (s : State) : Host.Outcome State Fault Refusal :=
  if s.ctl = .poll then .next (opBerClear s) else .next s

/-- The reserved command code (R67): refused at a tick with `ctl = POLL`, not looked at otherwise. -/
def execCmdReserved (s : State) : Host.Outcome State Fault Refusal :=
  if s.ctl = .poll then .refused .reservedCommand else .next s

/-- `POLL` (R82): the host command, then, unless it was a SEND, the edge detector and the tail. -/
def execPoll (s : State) : Host.Outcome State Fault Refusal :=
  match decodeCommand (cmdNow s) with
  | .reserved => .refused .reservedCommand
  | .berReset => .next (edgeOrTail (opBerClear s))
  | .nop => .next (edgeOrTail s)
  | .send b => .next (opSend b s)

/-- `TAIL` (R86). -/
def execTail (s : State) : Host.Outcome State Fault Refusal := .next (opTail s)

/-- `WAIT` (R87): runs with `timer > 0` only (log 8). -/
def execWait (s : State) : Host.Outcome State Fault Refusal :=
  if 0 < s.timer then .next (opWait s) else .refused .waitWithTimerZero

end Sys2Proof.Machine
end

