-- ==== Sys2Proof/Machine/Dispatch.lean ====
section
/-! DEFINITION. The dispatch of the 33 operations to their meanings, one arm each. -/

namespace Sys2Proof.Machine

def exec (i : Instr) (s : State) : Host.Outcome State Fault Refusal :=
  match i with
  | .nop => Sys2Proof.Machine.execNop s
  | .send b => Sys2Proof.Machine.execSend b s
  | .berReset => Sys2Proof.Machine.execBerReset s
  | .cmdReserved => Sys2Proof.Machine.execCmdReserved s
  | .frame b => Sys2Proof.Machine.execFrame b s
  | .idle => Sys2Proof.Machine.execIdle s
  | .poll => Sys2Proof.Machine.execPoll s
  | .tail => Sys2Proof.Machine.execTail s
  | .wait => Sys2Proof.Machine.execWait s
  | .sample => Sys2Proof.Machine.execSample s
  | .edge => Sys2Proof.Machine.execEdge s
  | .decStart => Sys2Proof.Machine.execDecStart s
  | .decGuard => Sys2Proof.Machine.execDecGuard s
  | .decSample => Sys2Proof.Machine.execDecSample s
  | .decReturn => Sys2Proof.Machine.execDecReturn s
  | .frameStart => Sys2Proof.Machine.execFrameStart s
  | .segAdvance => Sys2Proof.Machine.execSegAdvance s
  | .frameEnd => Sys2Proof.Machine.execFrameEnd s
  | .burstEnd => Sys2Proof.Machine.execBurstEnd s
  | .settleEnd => Sys2Proof.Machine.execSettleEnd s
  | .deliver => Sys2Proof.Machine.execDeliver s
  | .append => Sys2Proof.Machine.execAppend s
  | .completeTerm => Sys2Proof.Machine.execCompleteTerm s
  | .completeIdle => Sys2Proof.Machine.execCompleteIdle s
  | .complete => Sys2Proof.Machine.execComplete s
  | .actNone => Sys2Proof.Machine.execActNone s
  | .actBer => Sys2Proof.Machine.execActBer s
  | .actRelay => Sys2Proof.Machine.execActRelay s
  | .clear => Sys2Proof.Machine.execClear s
  | .compare => Sys2Proof.Machine.execCompare s
  | .accumulate => Sys2Proof.Machine.execAccumulate s
  | .berClear => Sys2Proof.Machine.execBerClear s
  | .berRatio => Sys2Proof.Machine.execBerRatio s

end Sys2Proof.Machine
end

