-- ==== Sys2Proof/WellFormed.lean ====
section
/-! DEFINITION. The checks of R1 (a legal configuration) and R67 (a command a host may present). -/

namespace Sys2Proof

/-- R67: "`op = 11` is reserved. A host must not present it." Every other operation is well formed: the operands of
SEND and FRAME are 8-bit units by their type, and all 256 values are legal (R69, R85). -/
def Instr.wellFormed : Instr → Bool
  | .cmdReserved => false
  | .nop | .send _ | .berReset | .frame _ | .idle
  | .poll | .tail | .wait | .sample | .edge
  | .decStart | .decGuard | .decSample | .decReturn
  | .frameStart | .segAdvance | .frameEnd | .burstEnd | .settleEnd
  | .deliver | .append | .completeTerm | .completeIdle | .complete
  | .actNone | .actBer | .actRelay | .clear
  | .compare | .accumulate | .berClear | .berRatio => true

/-- R1: a legal configuration, with `INT_W >= 1` from 00_scope.md section 4.2. The units of REF and TERMINATOR are in
0..255 by their type. -/
def Cfg.legal (c : Cfg) : Bool :=
  decide (2 ≤ c.tBit) && decide (1 ≤ c.intW) && decide (c.threshold < 2 ^ c.intW)

end Sys2Proof
end

