-- ==== Sys2Proof/Machine/Step.lean ====
section
/-! DEFINITION. One step: one tick (R4, R5, R81). -/

namespace Sys2Proof.Machine

/-- The step of one tick (R81): the operation selected by the sequencer state, then `now <- now + 1`. An illegal
configuration (R1, U7) and an input outside its type (R30, U8) are refused before anything runs (log 10). -/
def step (s : State) : Host.Outcome State Fault Refusal :=
  if s.cfg.legal then
    if inputLegal s then mapNext endTick (exec (select s) (beginTick s))
    else .refused .intensityOutOfRange
  else .refused .illegalConfiguration

/-- The state whose next step runs the operation of a word of spec/opcode_table.json (log 7). The block fetches
nothing (R55): what selects an operation is the sequencer state, the inputs and, for some, a constant (R70). -/
def State.withFetchWord (s : State) (nbits w : Nat) : State :=
  match decodeTableWord nbits w with
  | some i => arrange i s
  | none => s

end Sys2Proof.Machine
end

