-- ==== Sys2Proof/Safety.lean ====
section
/-! DEFINITION. What holds of a node in every state it reaches (R29), in the terms the statements use. -/

namespace Sys2Proof.Machine

/-- The decoder is waiting (R20). -/
def inDecode (s : State) : Prop := s.ctl = .rxGuard ∨ s.ctl = .rxData ∨ s.ctl = .rxTrail

/-- The invariant of the node between ticks. -/
structure NodeInv (s : State) : Prop where
  /-- R29 item 1, R148. -/
  flag : s.isTransmitting = true ↔ s.ctl = .txSeg
  /-- R29 item 2, R185. -/
  errors : s.bitErrors ≤ s.totalBitsCompared
  /-- R185: the total is a multiple of 8. -/
  total : s.totalBitsCompared % 8 = 0
  /-- R29 item 4. -/
  relay : s.ctl = .txSeg → s.burstKind = .relay → s.relayIdx < s.msgBuf.length
  /-- R29 item 5. -/
  append : s.msgBuf ≠ [] → s.lastAppendTime ≤ s.now
  /-- R29 item 7. -/
  noNul : s.cfg.nulSentinel = true → 0#8 ∉ s.msgBuf
  /-- R132: while a frame is sent the emitted level is that of its segment. -/
  sending : s.ctl = .txSeg → s.txLevel = segLevel s.txHold s.txSeg.val
  /-- R136: outside a frame the node emits high. -/
  restsHigh : s.ctl ≠ .txSeg → s.txLevel = true
  /-- R103: during a decode `current_level` is that of the edge poll, low. -/
  edgeLow : inDecode s → s.currentLevel = false
  /-- R115: all eight bits have been sampled when the decoder waits out the last bit period. -/
  lastBit : s.ctl = .rxTrail → s.rxIdx = 7
  /-- R37: nothing is on the wires between ticks. -/
  wires : s.wires = Wires.rest

/-- The environment supplies legal intensities at every listed tick (R30). -/
def legalInputs (s : State) : Prop := ∀ i ∈ s.inputs, i.intensity < 2 ^ s.cfg.intW

/-- The sensor's two readings are on the two sides of the threshold (R3, R52). -/
def lightSeparates (s : State) : Prop := s.iLow ≤ s.cfg.threshold ∧ s.cfg.threshold < s.iHigh ∧ s.iHigh < 2 ^ s.cfg.intW

/-- The mismatching bits of two messages (R180): the pairs of a position below the shorter length and a bit place at
which the two units differ. -/
def differingBits (ref rcv : List Byte) : Nat :=
  ((Finset.range (min ref.length rcv.length) ×ˢ Finset.range 8).filter
    (fun p => (ref.getD p.1 0#8).getLsbD p.2 ≠ (rcv.getD p.1 0#8).getLsbD p.2)).card

/-- Whether an event is a completed message (R33). -/
def isMsg : Event → Bool
  | .msg _ _ => true
  | .start | .abort | .sample _ _ | .unit _ | .append _ | .drop _ | .ber _ _ _ _ | .clear | .txStart _ | .txDone => false

/-- Whether an event is a data sample (R33). -/
def isSample : Event → Bool
  | .sample _ _ => true
  | .start | .abort | .msg _ _ | .unit _ | .append _ | .drop _ | .ber _ _ _ _ | .clear | .txStart _ | .txDone => false

end Sys2Proof.Machine
end

