-- ==== Sys2Proof/Certificates/Slice0/Obligations.lean ====
section
/-! DEFINITION. The statements for the provers. A statement whose equation has the form
`exec i s = .next { s with … }` says at once that `i` completes, what it writes, and that every other register, every
unit of the message buffer, the configuration and the pending inputs stay as they were. -/

open Sys2Proof Sys2Proof.Machine

/-! ## Encodings (30_encoding.md) -/

/-- Decoding the word of any operation gives the operation back, with every operand. -/
def Obligations.DecodeOfEncodeIsTheOperation : Prop :=
  ∀ i : Instr, decode (encode i) = .ok i

/-- A word that decodes is in its operation's row of the opcode table, and encoding the operation gives the word
back, but for the data bits of a command other than SEND, which R65 ignores. -/
def Obligations.DecodedWordIsInItsTableRow : Prop :=
  ∀ (c : Code) (i : Instr), decode c = .ok i →
    c.toNat &&& (tableRow i).mask = (tableRow i).pattern ∧
    (encode i = c ∨
      ∃ w : CmdWord, c = .cmd w ∧ w.toNat / 256 ≠ 1 ∧ encode i = .cmd (BitVec.ofNat 10 (w.toNat / 256 * 256)))

/-- R66: the two high bits of a command word select the command, and SEND's operand is the low eight bits. -/
def Obligations.CommandWordSelectsByItsHighBits : Prop :=
  ∀ w : CmdWord,
    (w.toNat < 0x100 → decode (.cmd w) = .ok .nop) ∧
    (0x100 ≤ w.toNat → w.toNat < 0x200 → ∃ b : Byte, b.toNat = w.toNat - 0x100 ∧ decode (.cmd w) = .ok (.send b)) ∧
    (0x200 ≤ w.toNat → w.toNat < 0x300 → decode (.cmd w) = .ok .berReset) ∧
    (0x300 ≤ w.toNat → decode (.cmd w) = .ok .cmdReserved)

/-- R62 and the word of R61: the ten segment levels of a frame. -/
def Obligations.FrameWordHasTheTenSegmentLevels : Prop :=
  ∀ b : Byte,
    segLevel b 0 = false ∧ (∀ k, 1 ≤ k → k ≤ 8 → segLevel b k = b.getLsbD (k - 1)) ∧ segLevel b 9 = true ∧
    ∃ w : BitVec 10, encode (.frame b) = .frame w ∧ w.toNat = 0x200 + 2 * b.toNat ∧
      ∀ k, k < 10 → w.getLsbD k = segLevel b k

/-- What is no operation: identifiers 27 to 31, a frame word with no low start or no high stop, a low tick. -/
def Obligations.WordsThatAreNoOperationAreRejectedByName : Prop :=
  (∀ w : BitVec 5, 27 ≤ w.toNat ↔ decode (.opId w) = .error .unusedOpId) ∧
  (∀ w : BitVec 10, w.getLsbD 0 = true ↔ decode (.frame w) = .error .startNotLow) ∧
  (∀ w : BitVec 10, w.getLsbD 0 = false ∧ w.getLsbD 9 = false ↔ decode (.frame w) = .error .stopNotHigh) ∧
  decode (.level 0#1) = .error .levelLow

/-- Words of the spec's tables (95_test_vectors.md section 1, V-CMD-1 to V-CMD-6, R70). -/
def Obligations.WordsOfTheSpecDecode : Prop :=
  decode (.cmd 0x148#10) = .ok (.send 0x48#8) ∧ decode (.cmd 0x0FF#10) = .ok .nop ∧
  decode (.cmd 0x2FF#10) = .ok .berReset ∧ decode (.cmd 0x300#10) = .ok .cmdReserved ∧
  decode (.frame 0x290#10) = .ok (.frame 0x48#8) ∧ decode (.frame 0x300#10) = .ok (.frame 0x80#8) ∧
  decode (.level 1#1) = .ok .idle ∧ decode (.opId 0x0A#5) = .ok .segAdvance ∧
  decode (.opId 0x1A#5) = .ok .berRatio

/-! ## The step (40_sequencer.md) -/

/-- R81: the step runs the operation that the sequencer state selects, then the tick ends. What the step adds around
exec is the model's own bookkeeping of logs 2, 3 and 4 (inputs, event list, wires) beside `now <- now + 1`. -/
def Obligations.StepRunsTheSelectedOperation : Prop :=
  ∀ (s : State) (i : Instr), s.cfg.legal = true → inputLegal s = true →
    ((s.ctl = .poll ∧ i = .poll) ∨
     (s.ctl ≠ .poll ∧ 0 < s.timer ∧ i = .wait) ∨
     (s.timer = 0 ∧
       ((s.ctl = .rxGuard ∧ i = .decGuard) ∨ (s.ctl = .rxData ∧ i = .decSample) ∨
        (s.ctl = .rxTrail ∧ i = .decReturn) ∨ (s.ctl = .txSeg ∧ s.txSeg.val < 9 ∧ i = .segAdvance) ∨
        (s.ctl = .txSeg ∧ s.txSeg.val = 9 ∧ i = .frameEnd) ∨ (s.ctl = .settle ∧ i = .settleEnd)))) →
    (∀ t, exec i { s with events := [] } = .next t →
      step s = .next { t with now := t.now + 1, inputs := t.inputs.tail, wires := Wires.rest }) ∧
    (∀ r, exec i { s with events := [] } = .refused r → step s = .refused r)

/-- R82: at a POLL tick the command word is decoded and run, and unless it was a SEND the edge detector follows in the
same tick, or the tail while the node transmits. -/
def Obligations.PollRunsTheDecodedCommandThenTheEdgeDetector : Prop :=
  ∀ s : State, s.ctl = .poll →
    (∀ b, decode (.cmd (cmdNow s)) = .ok (.send b) →
      ∃ t, exec (.send b) s = .next t ∧ exec .poll s = .next t) ∧
    (∀ i, i = .nop ∨ i = .berReset → decode (.cmd (cmdNow s)) = .ok i →
      ∃ t u, exec i s = .next t ∧ exec (if s.isTransmitting then .tail else .edge) t = .next u ∧
        exec .poll s = .next u) ∧
    (decode (.cmd (cmdNow s)) = .ok .cmdReserved → exec .poll s = .refused .reservedCommand)

/-- A command word at a POLL tick is what the step runs (R82, R208): a SEND is the whole tick; after a NOP or a
BER_RESET the poll of the same tick still happens. -/
def Obligations.StepAtPollRunsTheDecodedCommand : Prop :=
  ∀ (s : State) (i : Instr), s.ctl = .poll → s.cfg.legal = true → inputLegal s = true →
    decode (.cmd (cmdNow s)) = .ok i → i.wellFormed = true →
    ∃ t, exec i { s with events := [] } = .next t ∧
      ((∃ b, i = .send b) →
        step s = .next { t with now := t.now + 1, inputs := t.inputs.tail, wires := Wires.rest }) ∧
      ((∀ b, i ≠ .send b) →
        ∃ u, exec (if s.isTransmitting then .tail else .edge) t = .next u ∧
          step s = .next { u with now := u.now + 1, inputs := u.inputs.tail, wires := Wires.rest })

/-- The step is total (R81) but for the spec's refusals: an illegal configuration (R1), an intensity outside the
input type (R30), the reserved command at a POLL tick (R67). -/
def Obligations.StepAnswersNextUnlessTheSpecRefuses : Prop :=
  ∀ s : State, (∃ t, step s = .next t) ↔
    (2 ≤ s.cfg.tBit ∧ 1 ≤ s.cfg.intW ∧ s.cfg.threshold < 2 ^ s.cfg.intW) ∧
    (∀ i rest, s.inputs = i :: rest → i.intensity < 2 ^ s.cfg.intW) ∧
    ¬ (s.ctl = .poll ∧ decode (.cmd (cmdNow s)) = .ok .cmdReserved)

/-- R200: no step stops with a fault; and a refusal of a step is one of the three the spec names. -/
def Obligations.StepNeverFaultsAndRefusesOnlyByTheSpec : Prop :=
  ∀ s : State, (∀ f, step s ≠ .fault f) ∧
    ∀ r, step s = .refused r → r = .illegalConfiguration ∨ r = .intensityOutOfRange ∨ r = .reservedCommand

/-- R17: `now` counts the ticks since reset. -/
def Obligations.NowCountsTheTicksSinceReset : Prop :=
  (∀ s t : State, step s = .next t → t.now = s.now + 1) ∧
  (∀ (c : Cfg) (ins : List Input) (n : Nat) (t : State),
    Sys2Proof.core.run n { State.resetWith c with inputs := ins } = .next t → t.now = n)

/-- R56: no operation and no step writes a parameter. -/
def Obligations.NoOperationWritesTheConfiguration : Prop :=
  (∀ (i : Instr) (s t : State), exec i s = .next t → t.cfg = s.cfg) ∧
  (∀ s t : State, step s = .next t → t.cfg = s.cfg)

/-- The table of R88: control moves between the values of `ctl` in these ways only, each with the condition of its
row. A relay that the tail or a delivery starts shows its completion as a MSG event of the same step. -/
def Obligations.ControlMovesOnlyAsTheTableSays : Prop :=
  ∀ s t : State, step s = .next t →
    (s.ctl = .poll →
      (t.ctl = .poll ∧ Event.start ∉ t.events ∧ ∀ b, decode (.cmd (cmdNow s)) ≠ .ok (.send b)) ∨
      (t.ctl = .txSeg ∧ ∃ b, decode (.cmd (cmdNow s)) = .ok (.send b)) ∨
      (t.ctl = .txSeg ∧ Event.start ∉ t.events ∧ (∃ e ∈ t.events, isMsg e = true) ∧
        s.cfg.policy = .idleTimeout ∧ s.cfg.action = .relay) ∨
      (t.ctl = .rxGuard ∧ s.cfg.guardEn = true ∧ Event.start ∈ t.events ∧
        s.previousLevel = true ∧ intensityNow s ≤ s.cfg.threshold) ∨
      (t.ctl = .rxData ∧ s.cfg.guardEn = false ∧ Event.start ∈ t.events ∧
        s.previousLevel = true ∧ intensityNow s ≤ s.cfg.threshold)) ∧
    (s.ctl ≠ .poll → 0 < s.timer → t.ctl = s.ctl) ∧
    (s.timer = 0 → s.ctl = .rxGuard →
      (t.ctl = .rxData ∧ intensityNow s ≤ s.cfg.threshold) ∨
      (t.ctl = .poll ∧ s.cfg.threshold < intensityNow s) ∨
      (t.ctl = .txSeg ∧ s.cfg.threshold < intensityNow s ∧ (∃ e ∈ t.events, isMsg e = true) ∧
        s.cfg.policy = .idleTimeout ∧ s.cfg.action = .relay)) ∧
    (s.timer = 0 → s.ctl = .rxData →
      (s.rxIdx.val < 7 ∧ t.ctl = .rxData) ∨ (s.rxIdx.val = 7 ∧ t.ctl = .rxTrail)) ∧
    (s.timer = 0 → s.ctl = .rxTrail →
      t.ctl = .poll ∨ (t.ctl = .txSeg ∧ (∃ e ∈ t.events, isMsg e = true) ∧ s.cfg.action = .relay)) ∧
    (s.timer = 0 → s.ctl = .txSeg →
      (t.ctl = .txSeg ∧ s.txSeg.val < 9) ∨
      (t.ctl = .txSeg ∧ s.txSeg.val = 9 ∧ s.burstKind = .relay ∧ ∃ u, msgRead s (s.relayIdx + 1) = some u) ∨
      (s.txSeg.val = 9 ∧ (s.burstKind = .host ∨ msgRead s (s.relayIdx + 1) = none) ∧
        ((t.ctl = .settle ∧ 0 < s.cfg.tSettle) ∨ (t.ctl = .poll ∧ s.cfg.tSettle = 0) ∨
          (t.ctl = .txSeg ∧ s.cfg.tSettle = 0 ∧ s.burstKind = .host ∧ (∃ e ∈ t.events, isMsg e = true) ∧
            s.cfg.policy = .idleTimeout ∧ s.cfg.action = .relay)))) ∧
    (s.timer = 0 → s.ctl = .settle →
      t.ctl = .poll ∨
      (t.ctl = .txSeg ∧ s.burstKind = .host ∧ (∃ e ∈ t.events, isMsg e = true) ∧
        s.cfg.policy = .idleTimeout ∧ s.cfg.action = .relay))

/-- R90: at a tick with `ctl != POLL` the command word makes no difference, whatever it is. -/
def Obligations.CommandIsNotLookedAtOutsidePoll : Prop :=
  ∀ (s : State) (i : Input) (rest : List Input) (w : CmdWord),
    s.ctl ≠ .poll → s.inputs = i :: rest →
    step { s with inputs := { cmd := w, intensity := i.intensity } :: rest } = step s

/-- R53, R87, R93: in a wait, in a frame and in a settle interval the step does not depend on the inputs at all. -/
def Obligations.WaitingAndSendingStepsIgnoreTheInputs : Prop :=
  ∀ (s : State) (i j : Input) (rest : List Input),
    (s.ctl = .txSeg ∨ s.ctl = .settle ∨ (s.ctl ≠ .poll ∧ 0 < s.timer)) →
    s.inputs = i :: rest → i.intensity < 2 ^ s.cfg.intW → j.intensity < 2 ^ s.cfg.intW →
    step { s with inputs := j :: rest } = step s

/-- R87: `n` ticks of a blocking sleep count the timer down by `n` and change no other register but `now`. That the
inputs move on, the event list is empty and the wires are at rest after them is the model's own bookkeeping (logs 2, 3
and 4). -/
def Obligations.WaitingCountsTheTimerDown : Prop :=
  ∀ (n : Nat) (s : State), s.cfg.legal = true → legalInputs s → s.ctl ≠ .poll → 1 ≤ n → n ≤ s.timer →
    Sys2Proof.core.run n s = .next { s with
      timer := s.timer - n, now := s.now + n, inputs := s.inputs.drop n, events := [], wires := Wires.rest }

/-! ## Invariants (10_state.md section 8) -/

/-- Every step keeps the invariant of R29, R132, R136, R103, R185. -/
def Obligations.EveryStepKeepsTheNodeInvariant : Prop :=
  ∀ s t : State, NodeInv s → step s = .next t → NodeInv t

/-- The reset state meets the invariant, under every configuration. -/
def Obligations.ResetMeetsTheNodeInvariant : Prop :=
  ∀ c : Cfg, NodeInv (State.resetWith c)

/-- R147: while the node transmits nothing is received. -/
def Obligations.NothingIsReceivedWhileTransmitting : Prop :=
  ∀ s t : State, NodeInv s → s.isTransmitting = true → step s = .next t →
    t.previousLevel = s.previousLevel ∧ t.currentLevel = s.currentLevel ∧ t.rxShift = s.rxShift ∧
    t.rxIdx = s.rxIdx ∧ t.lastAppendTime = s.lastAppendTime ∧
    Event.start ∉ t.events ∧ (∀ e ∈ t.events, isSample e = false) ∧ ¬ inDecode t

/-- R103, R247: every decode, complete or aborted, leaves `previous_level` low, and with it low no poll raises a
start-bit event. -/
def Obligations.DecodeLeavesThePreviousLevelLow : Prop :=
  (∀ s t : State, NodeInv s → inDecode s → step s = .next t → ¬ inDecode t → t.previousLevel = false) ∧
  (∀ s t : State, s.previousLevel = false → s.ctl = .poll → step s = .next t →
    Event.start ∉ t.events ∧ ¬ inDecode t)

/-- R136: the emitted level changes only where a frame starts or a segment advances. -/
def Obligations.EmittedLevelChangesOnlyInFrames : Prop :=
  ∀ s t : State, step s = .next t → t.txLevel ≠ s.txLevel →
    (∃ b, Event.txStart b ∈ t.events ∧ t.txHold = b ∧ t.txLevel = false) ∨
    (s.ctl = .txSeg ∧ s.timer = 0 ∧ s.txSeg.val < 9)

/-- R41: the message buffer is appended to at the end or cleared as a whole, by any operation. -/
def Obligations.MessageBufferIsOnlyAppendedToOrCleared : Prop :=
  ∀ (i : Instr) (s t : State), exec i s = .next t →
    t.msgBuf = s.msgBuf ∨ t.msgBuf = [] ∨ ∃ u, t.msgBuf = s.msgBuf ++ [u]

/-- R167, R165: at most one completion fires in one step, and never one of an empty buffer: no MSG event of a step
carries the empty message. So no step comes to the stop of log 9. -/
def Obligations.AtMostOneMessageCompletesInAStep : Prop :=
  ∀ s t : State, step s = .next t →
    t.events.countP isMsg ≤ 1 ∧ ∀ c : Cause, Event.msg [] c ∉ t.events

/-- R181 corner case (c): only a step that takes a BER_RESET at a POLL tick, and a step that makes a comparison (it
emits a BER event) with ACTION = BER and BER_PER_MESSAGE = 1, lower a running total. -/
def Obligations.BerTotalsFallOnlyByAClear : Prop :=
  ∀ s t : State, step s = .next t →
    t.totalBitsCompared < s.totalBitsCompared ∨ t.bitErrors < s.bitErrors →
    (s.ctl = .poll ∧ decode (.cmd (cmdNow s)) = .ok .berReset) ∨
    (s.cfg.action = .ber ∧ s.cfg.berPerMessage = true ∧
      ∃ bits errs total errors, Event.ber bits errs total errors ∈ t.events)

/-! ## Reset (70_reset_and_hazards.md) -/

/-- R35: the table of reset values, under every configuration. -/
def Obligations.ResetLeavesTheValuesOfTheTable : Prop :=
  ∀ c : Cfg,
    (State.resetWith c).previousLevel = false ∧ (State.resetWith c).currentLevel = false ∧
    (State.resetWith c).isTransmitting = false ∧ (State.resetWith c).txLevel = true ∧
    (State.resetWith c).ctl = .poll ∧ (State.resetWith c).timer = 0 ∧
    (State.resetWith c).rxShift = 0x00#8 ∧ (State.resetWith c).rxIdx.val = 0 ∧
    (State.resetWith c).txHold = 0x00#8 ∧ (State.resetWith c).txSeg.val = 0 ∧
    (State.resetWith c).relayIdx = 0 ∧ (State.resetWith c).burstKind = .host ∧
    (State.resetWith c).msgBuf = [] ∧ (State.resetWith c).lastAppendTime = 0 ∧
    (State.resetWith c).totalBitsCompared = 0 ∧ (State.resetWith c).bitErrors = 0 ∧ (State.resetWith c).now = 0 ∧
    select (State.resetWith c) = .poll

/-- R231: what a user sees at tick 0; R230: a later reset discards the whole state, whatever was in progress, and emits
no event (that the environment's fields stay is the model's choice, log 14). -/
def Obligations.ResetShowsIdleOutputsAndDiscardsTheState : Prop :=
  ∀ (c : Cfg) (s : State),
    (opRestart c s).txLevel = true ∧ (opRestart c s).isTransmitting = false ∧ cmdReady (opRestart c s) = true ∧
    (opRestart c s).totalBitsCompared = 0 ∧ (opRestart c s).bitErrors = 0 ∧ berDefined (opRestart c s) = false ∧
    msgLen (opRestart c s) = 0 ∧ (opRestart c s).events = [] ∧
    opRestart c s = { State.resetWith c with inputs := s.inputs, iHigh := s.iHigh, iLow := s.iLow }

/-! ## Outputs -/

/-- R32, R89: the outputs that are functions of registers. -/
def Obligations.OutputsAreFunctionsOfTheRegisters : Prop :=
  ∀ s : State,
    (cmdReady s = true ↔ s.ctl = .poll) ∧
    (berDefined s = true ↔ 0 < s.totalBitsCompared) ∧
    msgLen s = s.msgBuf.length

/-! ## Host commands -/

/-- R83: NOP does nothing; R90: a SEND or a BER_RESET at a tick with `ctl != POLL` is lost (that the operation then has
the meaning "nothing" is the model's choice, log 15). -/
def Obligations.NopAndCommandsAtOtherTicksWriteNothing : Prop :=
  (∀ s : State, exec .nop s = .next s) ∧
  (∀ (s : State) (b : Byte), s.ctl ≠ .poll → exec (.send b) s = .next s ∧ exec .berReset s = .next s)

/-- R183: BER_CLEAR sets both totals to 0 and emits nothing; BER_RESET at a POLL tick does the same, ACT_BER starts
from zero totals when BER_PER_MESSAGE = 1, and so does reset. -/
def Obligations.BerClearAndBerResetZeroBothTotals : Prop :=
  (∀ s : State, exec .berClear s = .next { s with totalBitsCompared := 0, bitErrors := 0 }) ∧
  (∀ s : State, s.ctl = .poll → exec .berReset s = .next { s with totalBitsCompared := 0, bitErrors := 0 }) ∧
  (∀ s : State, s.cfg.berPerMessage = true →
    exec .actBer { s with totalBitsCompared := 0, bitErrors := 0 } = exec .actBer s) ∧
  (∀ c : Cfg, (State.resetWith c).totalBitsCompared = 0 ∧ (State.resetWith c).bitErrors = 0)

/-- R85, R131: a SEND taken at a POLL tick starts the frame of its operand, and FRAME_START that of its argument (the
wire of log 4). -/
def Obligations.SendAndFrameStartBeginAFrame : Prop :=
  (∀ (s : State) (b : Byte), s.ctl = .poll →
    exec (.send b) s = .next { s with
      burstKind := .host, txHold := b, isTransmitting := true, txSeg := 0, txLevel := false,
      timer := s.cfg.tBit - 1, ctl := .txSeg, events := s.events ++ [.txStart b],
      wires := { s.wires with frameUnit := b } }) ∧
  (∀ s : State, exec .frameStart s = .next { s with
      txHold := s.wires.frameUnit, isTransmitting := true, txSeg := 0, txLevel := false,
      timer := s.cfg.tBit - 1, ctl := .txSeg, events := s.events ++ [.txStart s.wires.frameUnit] })

/-- R67: the reserved code is refused at a POLL tick, by the operation and by the step, and has no effect at any other
tick. -/
def Obligations.ReservedCommandIsRefusedAtPollOnly : Prop :=
  (∀ s : State, s.ctl = .poll → exec .cmdReserved s = .refused .reservedCommand) ∧
  (∀ s : State, s.ctl ≠ .poll → exec .cmdReserved s = .next s) ∧
  (∀ s : State, s.cfg.legal = true → inputLegal s = true → s.ctl = .poll → 0x300 ≤ (cmdNow s).toNat →
    step s = .refused .reservedCommand) ∧
  (∀ (s : State) (i : Input) (rest : List Input), s.ctl ≠ .poll → s.inputs = i :: rest → 0x300 ≤ i.cmd.toNat →
    step { s with inputs := { cmd := 0#10, intensity := i.intensity } :: rest } = step s)

/-! ## Wire symbols -/

/-- R61, R63 in the model's reading of log 5: the symbol FRAME puts ten segments of T_BIT ticks each on the channel to
this node, IDLE one tick of high, after what is already listed; nothing of the node changes. -/
def Obligations.WireSymbolsPutTheirLevelsOnTheChannel : Prop :=
  (∀ (s : State) (b : Byte), ∃ t, exec (.frame b) s = .next t ∧
    t = { s with inputs := t.inputs } ∧ t.inputs.length = s.inputs.length + 10 * s.cfg.tBit ∧
    (∀ n, n < s.inputs.length → t.inputs[n]? = s.inputs[n]?) ∧
    (∀ k j, k < 10 → j < s.cfg.tBit →
      t.inputs[s.inputs.length + k * s.cfg.tBit + j]? =
        some { cmd := 0#10, intensity := if segLevel b k then s.iHigh else s.iLow })) ∧
  (∀ s : State, exec .idle s = .next { s with inputs := s.inputs ++ [{ cmd := 0#10, intensity := s.iHigh }] })

/-! ## Sampler and edge detector -/

/-- R100: the sampled level is 1 exactly when the intensity is above the threshold, and no register is written. -/
def Obligations.SampleComparesStrictlyWithTheThreshold : Prop :=
  ∀ s : State,
    (s.cfg.threshold < intensityNow s →
      exec .sample s = .next { s with wires := { s.wires with level := true } }) ∧
    (intensityNow s ≤ s.cfg.threshold →
      exec .sample s = .next { s with wires := { s.wires with level := false } })

/-- The inputs of a tick are the listed ones (R30, R31). That both stand in a list, that past its end the command is
NOP, and that the intensity there is a free value in its type (R30) is the model's choice (log 2, DESIGN CHOICE; unsafe
for the NOP: R31 has NOP when the host has nothing to ask, and does not say when that is). -/
def Obligations.InputsOfATickAreTheListedOnes : Prop :=
  (∀ (s : State) (i : Input) (rest : List Input), s.inputs = i :: rest →
    cmdNow s = i.cmd ∧ intensityNow s = i.intensity) ∧
  (∀ s : State, s.inputs = [] → decode (.cmd (cmdNow s)) = .ok .nop ∧ intensityNow s < 2 ^ s.cfg.intW)

/-- R101: the two arms of EDGE. -/
def Obligations.EdgeStartsADecodeOrRunsTheTail : Prop :=
  ∀ s : State,
    (s.previousLevel = true → intensityNow s ≤ s.cfg.threshold →
      ∃ t, exec .decStart { s with
          currentLevel := false, events := s.events ++ [.start], wires := { s.wires with level := false } } = .next t ∧
        exec .edge s = .next t) ∧
    (s.previousLevel = false ∨ s.cfg.threshold < intensityNow s →
      ∃ t, exec .tail { s with
          currentLevel := decide (s.cfg.threshold < intensityNow s),
          previousLevel := decide (s.cfg.threshold < intensityNow s),
          wires := { s.wires with level := decide (s.cfg.threshold < intensityNow s) } } = .next t ∧
        exec .edge s = .next t)

/-- R102: the event exactly on a high-to-low change between two polls, and `previous_level` after the poll. -/
def Obligations.StartBitEventIsAFallingEdge : Prop :=
  ∀ s t : State, exec .edge s = .next t → s.events = [] →
    (Event.start ∈ t.events ↔ s.previousLevel = true ∧ intensityNow s ≤ s.cfg.threshold) ∧
    (Event.start ∉ t.events → t.previousLevel = decide (s.cfg.threshold < intensityNow s)) ∧
    (Event.start ∈ t.events → t.previousLevel = true ∧ t.currentLevel = false)

/-! ## Decoder -/

/-- R111, with its corner case: at a legal bit period the loaded timer is one less than the wait, never cut off at 0,
and with T_BIT = 2 or 3 the guard sample is due at the very next tick. -/
def Obligations.DecodeStartSchedulesTheGuardOrTheFirstSample : Prop :=
  ∀ s : State,
    (s.cfg.guardEn = true → exec .decStart s = .next { s with
      rxShift := 0#8, rxIdx := 0, ctl := .rxGuard, timer := s.cfg.tBit / 2 - 1 }) ∧
    (s.cfg.guardEn = false → exec .decStart s = .next { s with
      rxShift := 0#8, rxIdx := 0, ctl := .rxData, timer := s.cfg.tBit / 2 + s.cfg.tBit - 1 }) ∧
    (2 ≤ s.cfg.tBit → 1 ≤ s.cfg.tBit / 2 ∧ ∃ t, exec .decStart s = .next t ∧
      t.timer + 1 = (if s.cfg.guardEn then s.cfg.tBit / 2 else s.cfg.tBit / 2 + s.cfg.tBit) ∧
      (s.cfg.guardEn = true → s.cfg.tBit ≤ 3 → t.timer = 0))

/-- R112: a high guard sample aborts, appends nothing and runs the tail; a low one goes on to the data. -/
def Obligations.GuardAbortsOnHighAndGoesOnOnLow : Prop :=
  ∀ s : State,
    (s.cfg.threshold < intensityNow s →
      ∃ t, exec .tail { s with
          previousLevel := s.currentLevel, ctl := .poll, events := s.events ++ [.abort],
          wires := { s.wires with level := true, decAbort := true, decData := 0#8 } } = .next t ∧
        exec .decGuard s = .next t) ∧
    (intensityNow s ≤ s.cfg.threshold →
      exec .decGuard s = .next { s with
        ctl := .rxData, timer := s.cfg.tBit - 1, wires := { s.wires with level := false } })

/-- R114: a data sample writes the one bit `rx_idx` of the unit, least significant first, and keeps the other seven. -/
def Obligations.DataSampleWritesOneBitOfTheUnit : Prop :=
  ∀ s : State, ∃ t, exec .decSample s = .next t ∧
    (∀ j, j < 8 → t.rxShift.getLsbD j =
      if j = s.rxIdx.val then decide (s.cfg.threshold < intensityNow s) else s.rxShift.getLsbD j) ∧
    (s.rxIdx.val < 7 → t.rxIdx.val = s.rxIdx.val + 1 ∧ t.ctl = s.ctl) ∧
    (s.rxIdx.val = 7 → t.rxIdx = s.rxIdx ∧ t.ctl = .rxTrail) ∧
    t = { s with
      rxShift := t.rxShift, rxIdx := t.rxIdx, ctl := t.ctl, timer := s.cfg.tBit - 1,
      events := s.events ++ [.sample s.rxIdx (decide (s.cfg.threshold < intensityNow s))],
      wires := { s.wires with level := decide (s.cfg.threshold < intensityNow s) } }

/-- R115: the end of a decode delivers the unit, then runs the tail. -/
def Obligations.DecodeReturnDeliversTheUnitThenRunsTheTail : Prop :=
  ∀ s : State, ∃ t u,
    exec .deliver { s with
      previousLevel := s.currentLevel, ctl := .poll, events := s.events ++ [.unit s.rxShift],
      wires := { s.wires with decAbort := false, decData := s.rxShift } } = .next t ∧
    exec .tail t = .next u ∧ exec .decReturn s = .next u

/-! ## Encoder and arbiter -/

/-- R132: the next segment goes on the channel with its level. -/
def Obligations.SegmentAdvancePutsTheNextLevelOnTheChannel : Prop :=
  ∀ s : State, s.txSeg.val < 9 → ∃ t, exec .segAdvance s = .next t ∧
    t.txSeg.val = s.txSeg.val + 1 ∧
    (s.txSeg.val < 8 → t.txLevel = s.txHold.getLsbD s.txSeg.val) ∧ (s.txSeg.val = 8 → t.txLevel = true) ∧
    t = { s with txSeg := t.txSeg, txLevel := t.txLevel, timer := s.cfg.tBit - 1 }

/-- R87: one tick of a blocking sleep. -/
def Obligations.WaitDecrementsTheTimer : Prop :=
  ∀ s : State, 0 < s.timer → exec .wait s = .next { s with timer := s.timer - 1 }

/-- R133: after the stop segment a relay burst with a further unit starts its frame in the same step; with no further
unit the burst ends. -/
def Obligations.FrameEndStartsTheNextUnitOrEndsTheBurst : Prop :=
  (∀ (s : State) (u : Byte), s.burstKind = .relay → msgRead s (s.relayIdx + 1) = some u →
    exec .frameEnd s = .next { s with
      relayIdx := s.relayIdx + 1, txHold := u, isTransmitting := true, txSeg := 0, txLevel := false,
      timer := s.cfg.tBit - 1, ctl := .txSeg, events := s.events ++ [.txDone, .txStart u],
      wires := { s.wires with frameUnit := u } }) ∧
  (∀ s : State, s.burstKind = .host ∨ msgRead s (s.relayIdx + 1) = none →
    ∃ t, exec .burstEnd { s with isTransmitting := false, events := s.events ++ [.txDone] } = .next t ∧
      exec .frameEnd s = .next t)

/-- R134, R150: a burst ends with the settle wait if there is one; then, at once or at the wait's end, a relayed
message is cleared and a host burst runs the tail. -/
def Obligations.BurstEndSettlesThenClearsOrRunsTheTail : Prop :=
  (∀ s : State, 0 < s.cfg.tSettle →
    exec .burstEnd s = .next { s with ctl := .settle, timer := s.cfg.tSettle - 1 }) ∧
  (∀ (s : State) (i : Instr), i = .settleEnd ∨ (i = .burstEnd ∧ s.cfg.tSettle = 0) →
    (s.burstKind = .relay →
      exec i s = .next { s with ctl := .poll, msgBuf := [], events := s.events ++ [.clear] }) ∧
    (s.burstKind = .host →
      ∃ t, exec .tail { s with ctl := .poll } = .next t ∧ exec i s = .next t))

/-! ## Assembler -/

/-- R156: an abort and, with NUL_SENTINEL = 1, the unit 0x00 are ignored; every other unit is appended. -/
def Obligations.DeliverIgnoresAbortAndSentinel : Prop :=
  ∀ s : State,
    (s.wires.decAbort = true → exec .deliver s = .next s) ∧
    (s.wires.decAbort = false → s.cfg.nulSentinel = true → s.wires.decData = 0x00#8 →
      exec .deliver s = .next { s with events := s.events ++ [.drop 0x00#8] }) ∧
    (s.wires.decAbort = false → s.cfg.nulSentinel = false ∨ s.wires.decData ≠ 0x00#8 →
      ∃ t, exec .append s = .next t ∧ exec .deliver s = .next t)

/-- R157: the unit goes to the end of the buffer, the time is recorded, and the terminator test follows under its
policy. -/
def Obligations.AppendAddsAtTheEndAndRecordsTheTime : Prop :=
  ∀ s : State,
    (s.cfg.policy = .idleTimeout →
      exec .append s = .next { s with
        msgBuf := s.msgBuf ++ [s.wires.decData], lastAppendTime := s.now,
        events := s.events ++ [.append s.wires.decData] }) ∧
    (s.cfg.policy = .terminator →
      ∃ t, exec .completeTerm { s with
          msgBuf := s.msgBuf ++ [s.wires.decData], lastAppendTime := s.now,
          events := s.events ++ [.append s.wires.decData] } = .next t ∧
        exec .append s = .next t)

/-- R158: the unit just appended completes the message exactly when it is the terminator. -/
def Obligations.TerminatorUnitCompletesTheMessage : Prop :=
  ∀ s : State,
    (s.wires.decData ≠ s.cfg.terminator → exec .completeTerm s = .next s) ∧
    (s.wires.decData = s.cfg.terminator → s.msgBuf ≠ [] →
      ∃ t, exec .complete { s with wires := { s.wires with cause := .term } } = .next t ∧
        exec .completeTerm s = .next t)

/-- R86, R159, R165: the tail completes a message exactly under the idle policy, with a unit pending and strictly more
than T_IDLE ticks since the last append. -/
def Obligations.TailCompletesAnIdleMessageStrictly : Prop :=
  ∀ s : State,
    (s.cfg.policy = .terminator → exec .tail s = .next s) ∧
    (s.cfg.policy = .idleTimeout → ∃ t, exec .completeIdle s = .next t ∧ exec .tail s = .next t) ∧
    (s.msgBuf = [] ∨ s.now - s.lastAppendTime ≤ s.cfg.tIdle → exec .completeIdle s = .next s) ∧
    (s.msgBuf ≠ [] → s.cfg.tIdle < s.now - s.lastAppendTime →
      ∃ t, exec .complete { s with wires := { s.wires with cause := .idle } } = .next t ∧
        exec .completeIdle s = .next t)

/-- R160, R161: a completion reports the whole buffer and runs the configured action. -/
def Obligations.CompletionReportsTheMessageAndActs : Prop :=
  ∀ s : State,
    (s.cfg.action = .none →
      exec .complete s = .next { s with
        msgBuf := [], events := s.events ++ [.msg s.msgBuf s.wires.cause, .clear] }) ∧
    (s.cfg.action = .ber →
      ∃ t, exec .actBer { s with events := s.events ++ [.msg s.msgBuf s.wires.cause] } = .next t ∧
        exec .complete s = .next t) ∧
    (s.cfg.action = .relay → s.msgBuf ≠ [] →
      ∃ t, exec .actRelay { s with events := s.events ++ [.msg s.msgBuf s.wires.cause] } = .next t ∧
        exec .complete s = .next t)

/-- R164, R161: CLEAR releases the buffer, and ACT_NONE is CLEAR. -/
def Obligations.ClearAndActNoneReleaseTheBuffer : Prop :=
  ∀ s : State,
    exec .clear s = .next { s with msgBuf := [], events := s.events ++ [.clear] } ∧
    exec .actNone s = .next { s with msgBuf := [], events := s.events ++ [.clear] }

/-- R163: a relay starts with unit 0 of the buffer. -/
def Obligations.RelayStartsWithTheFirstUnit : Prop :=
  ∀ (s : State) (u : Byte), msgRead s 0 = some u →
    exec .actRelay s = .next { s with
      relayIdx := 0, burstKind := .relay, txHold := u, isTransmitting := true, txSeg := 0, txLevel := false,
      timer := s.cfg.tBit - 1, ctl := .txSeg, events := s.events ++ [.txStart u],
      wires := { s.wires with frameUnit := u } }

/-! ## Stops of the model -/

/-- The model's own stops, in situations that select no operation (logs 8 and 9): WAIT with nothing to wait for, a
segment after the stop segment, a relay of a buffer that has no unit 0. -/
def Obligations.StopsOutsideTheSelectingSituations : Prop :=
  (∀ s : State, s.timer = 0 → exec .wait s = .refused .waitWithTimerZero) ∧
  (∀ s : State, s.txSeg.val = 9 → exec .segAdvance s = .refused .segmentPastStop) ∧
  (∀ s : State, s.msgBuf = [] → exec .actRelay s = .fault .msgIndexOutOfRange) ∧
  (∀ s : State, s.msgBuf = [] → s.cfg.action = .relay → exec .complete s = .fault .msgIndexOutOfRange) ∧
  (∀ s : State, s.msgBuf = [] → s.cfg.action = .relay → s.wires.decData = s.cfg.terminator →
    exec .completeTerm s = .fault .msgIndexOutOfRange)

/-! ## Bit-error-rate accumulator -/

/-- R180: the comparison counts 8 bits for each position of the common length and each bit place that differs; no
register is written. -/
def Obligations.CompareCountsTheDifferingBits : Prop :=
  ∀ s : State,
    exec .compare s = .next { s with wires := { s.wires with
      cmpBits := 8 * min s.cfg.ref.length s.msgBuf.length, cmpErrs := differingBits s.cfg.ref s.msgBuf } }

/-- R181: the totals grow by the comparison, and the event carries the new totals. -/
def Obligations.AccumulateAddsTheComparison : Prop :=
  ∀ s : State, exec .accumulate s = .next { s with
    totalBitsCompared := s.totalBitsCompared + s.wires.cmpBits, bitErrors := s.bitErrors + s.wires.cmpErrs,
    events := s.events ++ [.ber s.wires.cmpBits s.wires.cmpErrs
      (s.totalBitsCompared + s.wires.cmpBits) (s.bitErrors + s.wires.cmpErrs)] }

/-- R162, R182: BER accounting of a completed message, per session or per message, then the clear. -/
def Obligations.BerActionAccountsTheMessageAndClearsIt : Prop :=
  ∀ (s : State) (bits errs total errors : Nat),
    bits = 8 * min s.cfg.ref.length s.msgBuf.length → errs = differingBits s.cfg.ref s.msgBuf →
    total = (if s.cfg.berPerMessage then 0 else s.totalBitsCompared) + bits →
    errors = (if s.cfg.berPerMessage then 0 else s.bitErrors) + errs →
    exec .actBer s = .next { s with
      totalBitsCompared := total, bitErrors := errors, msgBuf := [],
      events := s.events ++ [.ber bits errs total errors, .clear],
      wires := { s.wires with cmpBits := bits, cmpErrs := errs } }

/-- R184: no value with no bit compared, else the exact ratio, between 0 and 1 while R185 holds. -/
def Obligations.BerRatioIsExactOrNoValue : Prop :=
  ∀ s : State,
    (s.totalBitsCompared = 0 → berDefined s = false ∧
      exec .berRatio s = .next { s with wires := { s.wires with ratio := none } }) ∧
    (s.totalBitsCompared ≠ 0 → berDefined s = true ∧ ∃ q : Rat,
      exec .berRatio s = .next { s with wires := { s.wires with ratio := some q } } ∧
      q * (s.totalBitsCompared : Rat) = (s.bitErrors : Rat) ∧
      (s.bitErrors ≤ s.totalBitsCompared → 0 ≤ q ∧ q ≤ 1))

/-! ## Frames, end to end -/

/-- R130, R135: a SEND taken at a tick puts the ten segments of its unit on the channel, each for T_BIT ticks, with the
flag set, and the frame is done after 10 T_BIT ticks. -/
def Obligations.SentFrameHoldsEachSegmentForTheBitPeriod : Prop :=
  ∀ (s : State) (b : Byte), s.cfg.legal = true → legalInputs s → s.ctl = .poll →
    decode (.cmd (cmdNow s)) = .ok (.send b) →
    (∀ k j, k < 10 → j < s.cfg.tBit →
      ∃ t, Sys2Proof.core.run (1 + k * s.cfg.tBit + j) s = .next t ∧
        t.txLevel = segLevel b k ∧ t.isTransmitting = true ∧ t.txSeg.val = k) ∧
    ∃ t, Sys2Proof.core.run (1 + 10 * s.cfg.tBit) s = .next t ∧ Event.txDone ∈ t.events

/-- R133 corner case (a), R168: the next unit of a relay burst is on the channel right after the stop segment of the
one before it. -/
def Obligations.RelayFramesFollowWithoutAGap : Prop :=
  ∀ (s : State) (u : Byte), s.cfg.legal = true → legalInputs s → s.ctl = .txSeg → s.txSeg = 0 →
    s.timer = s.cfg.tBit - 1 → s.burstKind = .relay → msgRead s (s.relayIdx + 1) = some u →
    ∃ t, Sys2Proof.core.run (10 * s.cfg.tBit) s = .next t ∧
      t.ctl = .txSeg ∧ t.txSeg = 0 ∧ t.timer = s.cfg.tBit - 1 ∧ t.burstKind = .relay ∧
      t.relayIdx = s.relayIdx + 1 ∧ t.txHold = u ∧ t.txLevel = false ∧ t.isTransmitting = true ∧
      t.msgBuf = s.msgBuf ∧ t.previousLevel = s.previousLevel ∧ t.now = s.now + 10 * s.cfg.tBit

/-- R117 and the round trip of the source (S1 of 95_test_vectors.md): the frame of any unit on the channel of a
polling node that last polled high decodes to that unit, `T_HALF + 9 T_BIT` ticks after the edge tick, with the guard
and without it. -/
def Obligations.ReceivedFrameDecodesToItsUnit : Prop :=
  ∀ (s : State) (b : Byte), s.cfg.legal = true → lightSeparates s → s.ctl = .poll → s.isTransmitting = false →
    s.previousLevel = true → s.inputs = [] →
    ∃ t u, exec (.frame b) s = .next t ∧
      Sys2Proof.core.run (s.cfg.tBit / 2 + 9 * s.cfg.tBit + 1) t = .next u ∧
      u.rxShift = b ∧ Event.unit b ∈ u.events ∧ u.previousLevel = false
end

