-- ==== Sys2Proof/Laws/State.lean ====
section
/-! SUPPORT. One lemma per field per update of the state, each true by rfl. -/

namespace Sys2Proof.Machine

/-! ### emit -/

@[simp] theorem emit_previousLevel (e : Event) (s : State) : (emit e s).previousLevel = s.previousLevel := rfl
@[simp] theorem emit_currentLevel (e : Event) (s : State) : (emit e s).currentLevel = s.currentLevel := rfl
@[simp] theorem emit_isTransmitting (e : Event) (s : State) : (emit e s).isTransmitting = s.isTransmitting := rfl
@[simp] theorem emit_txLevel (e : Event) (s : State) : (emit e s).txLevel = s.txLevel := rfl
@[simp] theorem emit_ctl (e : Event) (s : State) : (emit e s).ctl = s.ctl := rfl
@[simp] theorem emit_timer (e : Event) (s : State) : (emit e s).timer = s.timer := rfl
@[simp] theorem emit_rxShift (e : Event) (s : State) : (emit e s).rxShift = s.rxShift := rfl
@[simp] theorem emit_rxIdx (e : Event) (s : State) : (emit e s).rxIdx = s.rxIdx := rfl
@[simp] theorem emit_txHold (e : Event) (s : State) : (emit e s).txHold = s.txHold := rfl
@[simp] theorem emit_txSeg (e : Event) (s : State) : (emit e s).txSeg = s.txSeg := rfl
@[simp] theorem emit_relayIdx (e : Event) (s : State) : (emit e s).relayIdx = s.relayIdx := rfl
@[simp] theorem emit_burstKind (e : Event) (s : State) : (emit e s).burstKind = s.burstKind := rfl
@[simp] theorem emit_msgBuf (e : Event) (s : State) : (emit e s).msgBuf = s.msgBuf := rfl
@[simp] theorem emit_lastAppendTime (e : Event) (s : State) : (emit e s).lastAppendTime = s.lastAppendTime := rfl
@[simp] theorem emit_totalBitsCompared (e : Event) (s : State) : (emit e s).totalBitsCompared = s.totalBitsCompared := rfl
@[simp] theorem emit_bitErrors (e : Event) (s : State) : (emit e s).bitErrors = s.bitErrors := rfl
@[simp] theorem emit_now (e : Event) (s : State) : (emit e s).now = s.now := rfl
@[simp] theorem emit_cfg (e : Event) (s : State) : (emit e s).cfg = s.cfg := rfl
@[simp] theorem emit_inputs (e : Event) (s : State) : (emit e s).inputs = s.inputs := rfl
@[simp] theorem emit_iHigh (e : Event) (s : State) : (emit e s).iHigh = s.iHigh := rfl
@[simp] theorem emit_iLow (e : Event) (s : State) : (emit e s).iLow = s.iLow := rfl
@[simp] theorem emit_events (e : Event) (s : State) : (emit e s).events = s.events ++ [e] := rfl
@[simp] theorem emit_wires (e : Event) (s : State) : (emit e s).wires = s.wires := rfl

/-! ### opFrame -/

@[simp] theorem opFrame_previousLevel (b : Byte) (s : State) : (opFrame b s).previousLevel = s.previousLevel := rfl
@[simp] theorem opFrame_currentLevel (b : Byte) (s : State) : (opFrame b s).currentLevel = s.currentLevel := rfl
@[simp] theorem opFrame_isTransmitting (b : Byte) (s : State) : (opFrame b s).isTransmitting = s.isTransmitting := rfl
@[simp] theorem opFrame_txLevel (b : Byte) (s : State) : (opFrame b s).txLevel = s.txLevel := rfl
@[simp] theorem opFrame_ctl (b : Byte) (s : State) : (opFrame b s).ctl = s.ctl := rfl
@[simp] theorem opFrame_timer (b : Byte) (s : State) : (opFrame b s).timer = s.timer := rfl
@[simp] theorem opFrame_rxShift (b : Byte) (s : State) : (opFrame b s).rxShift = s.rxShift := rfl
@[simp] theorem opFrame_rxIdx (b : Byte) (s : State) : (opFrame b s).rxIdx = s.rxIdx := rfl
@[simp] theorem opFrame_txHold (b : Byte) (s : State) : (opFrame b s).txHold = s.txHold := rfl
@[simp] theorem opFrame_txSeg (b : Byte) (s : State) : (opFrame b s).txSeg = s.txSeg := rfl
@[simp] theorem opFrame_relayIdx (b : Byte) (s : State) : (opFrame b s).relayIdx = s.relayIdx := rfl
@[simp] theorem opFrame_burstKind (b : Byte) (s : State) : (opFrame b s).burstKind = s.burstKind := rfl
@[simp] theorem opFrame_msgBuf (b : Byte) (s : State) : (opFrame b s).msgBuf = s.msgBuf := rfl
@[simp] theorem opFrame_lastAppendTime (b : Byte) (s : State) : (opFrame b s).lastAppendTime = s.lastAppendTime := rfl
@[simp] theorem opFrame_totalBitsCompared (b : Byte) (s : State) : (opFrame b s).totalBitsCompared = s.totalBitsCompared := rfl
@[simp] theorem opFrame_bitErrors (b : Byte) (s : State) : (opFrame b s).bitErrors = s.bitErrors := rfl
@[simp] theorem opFrame_now (b : Byte) (s : State) : (opFrame b s).now = s.now := rfl
@[simp] theorem opFrame_cfg (b : Byte) (s : State) : (opFrame b s).cfg = s.cfg := rfl
@[simp] theorem opFrame_inputs (b : Byte) (s : State) : (opFrame b s).inputs = s.inputs ++ frameTicks s b := rfl
@[simp] theorem opFrame_iHigh (b : Byte) (s : State) : (opFrame b s).iHigh = s.iHigh := rfl
@[simp] theorem opFrame_iLow (b : Byte) (s : State) : (opFrame b s).iLow = s.iLow := rfl
@[simp] theorem opFrame_events (b : Byte) (s : State) : (opFrame b s).events = s.events := rfl
@[simp] theorem opFrame_wires (b : Byte) (s : State) : (opFrame b s).wires = s.wires := rfl

/-! ### opIdle -/

@[simp] theorem opIdle_previousLevel (s : State) : (opIdle s).previousLevel = s.previousLevel := rfl
@[simp] theorem opIdle_currentLevel (s : State) : (opIdle s).currentLevel = s.currentLevel := rfl
@[simp] theorem opIdle_isTransmitting (s : State) : (opIdle s).isTransmitting = s.isTransmitting := rfl
@[simp] theorem opIdle_txLevel (s : State) : (opIdle s).txLevel = s.txLevel := rfl
@[simp] theorem opIdle_ctl (s : State) : (opIdle s).ctl = s.ctl := rfl
@[simp] theorem opIdle_timer (s : State) : (opIdle s).timer = s.timer := rfl
@[simp] theorem opIdle_rxShift (s : State) : (opIdle s).rxShift = s.rxShift := rfl
@[simp] theorem opIdle_rxIdx (s : State) : (opIdle s).rxIdx = s.rxIdx := rfl
@[simp] theorem opIdle_txHold (s : State) : (opIdle s).txHold = s.txHold := rfl
@[simp] theorem opIdle_txSeg (s : State) : (opIdle s).txSeg = s.txSeg := rfl
@[simp] theorem opIdle_relayIdx (s : State) : (opIdle s).relayIdx = s.relayIdx := rfl
@[simp] theorem opIdle_burstKind (s : State) : (opIdle s).burstKind = s.burstKind := rfl
@[simp] theorem opIdle_msgBuf (s : State) : (opIdle s).msgBuf = s.msgBuf := rfl
@[simp] theorem opIdle_lastAppendTime (s : State) : (opIdle s).lastAppendTime = s.lastAppendTime := rfl
@[simp] theorem opIdle_totalBitsCompared (s : State) : (opIdle s).totalBitsCompared = s.totalBitsCompared := rfl
@[simp] theorem opIdle_bitErrors (s : State) : (opIdle s).bitErrors = s.bitErrors := rfl
@[simp] theorem opIdle_now (s : State) : (opIdle s).now = s.now := rfl
@[simp] theorem opIdle_cfg (s : State) : (opIdle s).cfg = s.cfg := rfl
@[simp] theorem opIdle_inputs (s : State) : (opIdle s).inputs = s.inputs ++ [lightTick s true] := rfl
@[simp] theorem opIdle_iHigh (s : State) : (opIdle s).iHigh = s.iHigh := rfl
@[simp] theorem opIdle_iLow (s : State) : (opIdle s).iLow = s.iLow := rfl
@[simp] theorem opIdle_events (s : State) : (opIdle s).events = s.events := rfl
@[simp] theorem opIdle_wires (s : State) : (opIdle s).wires = s.wires := rfl

/-! ### opSample -/

@[simp] theorem opSample_previousLevel (s : State) : (opSample s).previousLevel = s.previousLevel := rfl
@[simp] theorem opSample_currentLevel (s : State) : (opSample s).currentLevel = s.currentLevel := rfl
@[simp] theorem opSample_isTransmitting (s : State) : (opSample s).isTransmitting = s.isTransmitting := rfl
@[simp] theorem opSample_txLevel (s : State) : (opSample s).txLevel = s.txLevel := rfl
@[simp] theorem opSample_ctl (s : State) : (opSample s).ctl = s.ctl := rfl
@[simp] theorem opSample_timer (s : State) : (opSample s).timer = s.timer := rfl
@[simp] theorem opSample_rxShift (s : State) : (opSample s).rxShift = s.rxShift := rfl
@[simp] theorem opSample_rxIdx (s : State) : (opSample s).rxIdx = s.rxIdx := rfl
@[simp] theorem opSample_txHold (s : State) : (opSample s).txHold = s.txHold := rfl
@[simp] theorem opSample_txSeg (s : State) : (opSample s).txSeg = s.txSeg := rfl
@[simp] theorem opSample_relayIdx (s : State) : (opSample s).relayIdx = s.relayIdx := rfl
@[simp] theorem opSample_burstKind (s : State) : (opSample s).burstKind = s.burstKind := rfl
@[simp] theorem opSample_msgBuf (s : State) : (opSample s).msgBuf = s.msgBuf := rfl
@[simp] theorem opSample_lastAppendTime (s : State) : (opSample s).lastAppendTime = s.lastAppendTime := rfl
@[simp] theorem opSample_totalBitsCompared (s : State) : (opSample s).totalBitsCompared = s.totalBitsCompared := rfl
@[simp] theorem opSample_bitErrors (s : State) : (opSample s).bitErrors = s.bitErrors := rfl
@[simp] theorem opSample_now (s : State) : (opSample s).now = s.now := rfl
@[simp] theorem opSample_cfg (s : State) : (opSample s).cfg = s.cfg := rfl
@[simp] theorem opSample_inputs (s : State) : (opSample s).inputs = s.inputs := rfl
@[simp] theorem opSample_iHigh (s : State) : (opSample s).iHigh = s.iHigh := rfl
@[simp] theorem opSample_iLow (s : State) : (opSample s).iLow = s.iLow := rfl
@[simp] theorem opSample_events (s : State) : (opSample s).events = s.events := rfl
@[simp] theorem opSample_wires (s : State) : (opSample s).wires = { s.wires with level := level s.cfg (intensityNow s) } := rfl

/-! ### opCompare -/

@[simp] theorem opCompare_previousLevel (s : State) : (opCompare s).previousLevel = s.previousLevel := rfl
@[simp] theorem opCompare_currentLevel (s : State) : (opCompare s).currentLevel = s.currentLevel := rfl
@[simp] theorem opCompare_isTransmitting (s : State) : (opCompare s).isTransmitting = s.isTransmitting := rfl
@[simp] theorem opCompare_txLevel (s : State) : (opCompare s).txLevel = s.txLevel := rfl
@[simp] theorem opCompare_ctl (s : State) : (opCompare s).ctl = s.ctl := rfl
@[simp] theorem opCompare_timer (s : State) : (opCompare s).timer = s.timer := rfl
@[simp] theorem opCompare_rxShift (s : State) : (opCompare s).rxShift = s.rxShift := rfl
@[simp] theorem opCompare_rxIdx (s : State) : (opCompare s).rxIdx = s.rxIdx := rfl
@[simp] theorem opCompare_txHold (s : State) : (opCompare s).txHold = s.txHold := rfl
@[simp] theorem opCompare_txSeg (s : State) : (opCompare s).txSeg = s.txSeg := rfl
@[simp] theorem opCompare_relayIdx (s : State) : (opCompare s).relayIdx = s.relayIdx := rfl
@[simp] theorem opCompare_burstKind (s : State) : (opCompare s).burstKind = s.burstKind := rfl
@[simp] theorem opCompare_msgBuf (s : State) : (opCompare s).msgBuf = s.msgBuf := rfl
@[simp] theorem opCompare_lastAppendTime (s : State) : (opCompare s).lastAppendTime = s.lastAppendTime := rfl
@[simp] theorem opCompare_totalBitsCompared (s : State) : (opCompare s).totalBitsCompared = s.totalBitsCompared := rfl
@[simp] theorem opCompare_bitErrors (s : State) : (opCompare s).bitErrors = s.bitErrors := rfl
@[simp] theorem opCompare_now (s : State) : (opCompare s).now = s.now := rfl
@[simp] theorem opCompare_cfg (s : State) : (opCompare s).cfg = s.cfg := rfl
@[simp] theorem opCompare_inputs (s : State) : (opCompare s).inputs = s.inputs := rfl
@[simp] theorem opCompare_iHigh (s : State) : (opCompare s).iHigh = s.iHigh := rfl
@[simp] theorem opCompare_iLow (s : State) : (opCompare s).iLow = s.iLow := rfl
@[simp] theorem opCompare_events (s : State) : (opCompare s).events = s.events := rfl
@[simp] theorem opCompare_wires (s : State) : (opCompare s).wires = { s.wires with cmpBits := (compareUnits s.cfg.ref s.msgBuf).1, cmpErrs := (compareUnits s.cfg.ref s.msgBuf).2 } := rfl

/-! ### opAccumulate -/

@[simp] theorem opAccumulate_previousLevel (s : State) : (opAccumulate s).previousLevel = s.previousLevel := rfl
@[simp] theorem opAccumulate_currentLevel (s : State) : (opAccumulate s).currentLevel = s.currentLevel := rfl
@[simp] theorem opAccumulate_isTransmitting (s : State) : (opAccumulate s).isTransmitting = s.isTransmitting := rfl
@[simp] theorem opAccumulate_txLevel (s : State) : (opAccumulate s).txLevel = s.txLevel := rfl
@[simp] theorem opAccumulate_ctl (s : State) : (opAccumulate s).ctl = s.ctl := rfl
@[simp] theorem opAccumulate_timer (s : State) : (opAccumulate s).timer = s.timer := rfl
@[simp] theorem opAccumulate_rxShift (s : State) : (opAccumulate s).rxShift = s.rxShift := rfl
@[simp] theorem opAccumulate_rxIdx (s : State) : (opAccumulate s).rxIdx = s.rxIdx := rfl
@[simp] theorem opAccumulate_txHold (s : State) : (opAccumulate s).txHold = s.txHold := rfl
@[simp] theorem opAccumulate_txSeg (s : State) : (opAccumulate s).txSeg = s.txSeg := rfl
@[simp] theorem opAccumulate_relayIdx (s : State) : (opAccumulate s).relayIdx = s.relayIdx := rfl
@[simp] theorem opAccumulate_burstKind (s : State) : (opAccumulate s).burstKind = s.burstKind := rfl
@[simp] theorem opAccumulate_msgBuf (s : State) : (opAccumulate s).msgBuf = s.msgBuf := rfl
@[simp] theorem opAccumulate_lastAppendTime (s : State) : (opAccumulate s).lastAppendTime = s.lastAppendTime := rfl
@[simp] theorem opAccumulate_totalBitsCompared (s : State) : (opAccumulate s).totalBitsCompared = s.totalBitsCompared + s.wires.cmpBits := rfl
@[simp] theorem opAccumulate_bitErrors (s : State) : (opAccumulate s).bitErrors = s.bitErrors + s.wires.cmpErrs := rfl
@[simp] theorem opAccumulate_now (s : State) : (opAccumulate s).now = s.now := rfl
@[simp] theorem opAccumulate_cfg (s : State) : (opAccumulate s).cfg = s.cfg := rfl
@[simp] theorem opAccumulate_inputs (s : State) : (opAccumulate s).inputs = s.inputs := rfl
@[simp] theorem opAccumulate_iHigh (s : State) : (opAccumulate s).iHigh = s.iHigh := rfl
@[simp] theorem opAccumulate_iLow (s : State) : (opAccumulate s).iLow = s.iLow := rfl
@[simp] theorem opAccumulate_events (s : State) : (opAccumulate s).events = s.events ++ [.ber s.wires.cmpBits s.wires.cmpErrs (s.totalBitsCompared + s.wires.cmpBits) (s.bitErrors + s.wires.cmpErrs)] := rfl
@[simp] theorem opAccumulate_wires (s : State) : (opAccumulate s).wires = s.wires := rfl

/-! ### opBerClear -/

@[simp] theorem opBerClear_previousLevel (s : State) : (opBerClear s).previousLevel = s.previousLevel := rfl
@[simp] theorem opBerClear_currentLevel (s : State) : (opBerClear s).currentLevel = s.currentLevel := rfl
@[simp] theorem opBerClear_isTransmitting (s : State) : (opBerClear s).isTransmitting = s.isTransmitting := rfl
@[simp] theorem opBerClear_txLevel (s : State) : (opBerClear s).txLevel = s.txLevel := rfl
@[simp] theorem opBerClear_ctl (s : State) : (opBerClear s).ctl = s.ctl := rfl
@[simp] theorem opBerClear_timer (s : State) : (opBerClear s).timer = s.timer := rfl
@[simp] theorem opBerClear_rxShift (s : State) : (opBerClear s).rxShift = s.rxShift := rfl
@[simp] theorem opBerClear_rxIdx (s : State) : (opBerClear s).rxIdx = s.rxIdx := rfl
@[simp] theorem opBerClear_txHold (s : State) : (opBerClear s).txHold = s.txHold := rfl
@[simp] theorem opBerClear_txSeg (s : State) : (opBerClear s).txSeg = s.txSeg := rfl
@[simp] theorem opBerClear_relayIdx (s : State) : (opBerClear s).relayIdx = s.relayIdx := rfl
@[simp] theorem opBerClear_burstKind (s : State) : (opBerClear s).burstKind = s.burstKind := rfl
@[simp] theorem opBerClear_msgBuf (s : State) : (opBerClear s).msgBuf = s.msgBuf := rfl
@[simp] theorem opBerClear_lastAppendTime (s : State) : (opBerClear s).lastAppendTime = s.lastAppendTime := rfl
@[simp] theorem opBerClear_totalBitsCompared (s : State) : (opBerClear s).totalBitsCompared = 0 := rfl
@[simp] theorem opBerClear_bitErrors (s : State) : (opBerClear s).bitErrors = 0 := rfl
@[simp] theorem opBerClear_now (s : State) : (opBerClear s).now = s.now := rfl
@[simp] theorem opBerClear_cfg (s : State) : (opBerClear s).cfg = s.cfg := rfl
@[simp] theorem opBerClear_inputs (s : State) : (opBerClear s).inputs = s.inputs := rfl
@[simp] theorem opBerClear_iHigh (s : State) : (opBerClear s).iHigh = s.iHigh := rfl
@[simp] theorem opBerClear_iLow (s : State) : (opBerClear s).iLow = s.iLow := rfl
@[simp] theorem opBerClear_events (s : State) : (opBerClear s).events = s.events := rfl
@[simp] theorem opBerClear_wires (s : State) : (opBerClear s).wires = s.wires := rfl

/-! ### opBerRatio -/

@[simp] theorem opBerRatio_previousLevel (s : State) : (opBerRatio s).previousLevel = s.previousLevel := rfl
@[simp] theorem opBerRatio_currentLevel (s : State) : (opBerRatio s).currentLevel = s.currentLevel := rfl
@[simp] theorem opBerRatio_isTransmitting (s : State) : (opBerRatio s).isTransmitting = s.isTransmitting := rfl
@[simp] theorem opBerRatio_txLevel (s : State) : (opBerRatio s).txLevel = s.txLevel := rfl
@[simp] theorem opBerRatio_ctl (s : State) : (opBerRatio s).ctl = s.ctl := rfl
@[simp] theorem opBerRatio_timer (s : State) : (opBerRatio s).timer = s.timer := rfl
@[simp] theorem opBerRatio_rxShift (s : State) : (opBerRatio s).rxShift = s.rxShift := rfl
@[simp] theorem opBerRatio_rxIdx (s : State) : (opBerRatio s).rxIdx = s.rxIdx := rfl
@[simp] theorem opBerRatio_txHold (s : State) : (opBerRatio s).txHold = s.txHold := rfl
@[simp] theorem opBerRatio_txSeg (s : State) : (opBerRatio s).txSeg = s.txSeg := rfl
@[simp] theorem opBerRatio_relayIdx (s : State) : (opBerRatio s).relayIdx = s.relayIdx := rfl
@[simp] theorem opBerRatio_burstKind (s : State) : (opBerRatio s).burstKind = s.burstKind := rfl
@[simp] theorem opBerRatio_msgBuf (s : State) : (opBerRatio s).msgBuf = s.msgBuf := rfl
@[simp] theorem opBerRatio_lastAppendTime (s : State) : (opBerRatio s).lastAppendTime = s.lastAppendTime := rfl
@[simp] theorem opBerRatio_totalBitsCompared (s : State) : (opBerRatio s).totalBitsCompared = s.totalBitsCompared := rfl
@[simp] theorem opBerRatio_bitErrors (s : State) : (opBerRatio s).bitErrors = s.bitErrors := rfl
@[simp] theorem opBerRatio_now (s : State) : (opBerRatio s).now = s.now := rfl
@[simp] theorem opBerRatio_cfg (s : State) : (opBerRatio s).cfg = s.cfg := rfl
@[simp] theorem opBerRatio_inputs (s : State) : (opBerRatio s).inputs = s.inputs := rfl
@[simp] theorem opBerRatio_iHigh (s : State) : (opBerRatio s).iHigh = s.iHigh := rfl
@[simp] theorem opBerRatio_iLow (s : State) : (opBerRatio s).iLow = s.iLow := rfl
@[simp] theorem opBerRatio_events (s : State) : (opBerRatio s).events = s.events := rfl
@[simp] theorem opBerRatio_wires (s : State) : (opBerRatio s).wires = { s.wires with ratio := berRatioOf s } := rfl

/-! ### opFrameStart -/

@[simp] theorem opFrameStart_previousLevel (s : State) : (opFrameStart s).previousLevel = s.previousLevel := rfl
@[simp] theorem opFrameStart_currentLevel (s : State) : (opFrameStart s).currentLevel = s.currentLevel := rfl
@[simp] theorem opFrameStart_isTransmitting (s : State) : (opFrameStart s).isTransmitting = true := rfl
@[simp] theorem opFrameStart_txLevel (s : State) : (opFrameStart s).txLevel = false := rfl
@[simp] theorem opFrameStart_ctl (s : State) : (opFrameStart s).ctl = .txSeg := rfl
@[simp] theorem opFrameStart_timer (s : State) : (opFrameStart s).timer = s.cfg.tBit - 1 := rfl
@[simp] theorem opFrameStart_rxShift (s : State) : (opFrameStart s).rxShift = s.rxShift := rfl
@[simp] theorem opFrameStart_rxIdx (s : State) : (opFrameStart s).rxIdx = s.rxIdx := rfl
@[simp] theorem opFrameStart_txHold (s : State) : (opFrameStart s).txHold = s.wires.frameUnit := rfl
@[simp] theorem opFrameStart_txSeg (s : State) : (opFrameStart s).txSeg = 0 := rfl
@[simp] theorem opFrameStart_relayIdx (s : State) : (opFrameStart s).relayIdx = s.relayIdx := rfl
@[simp] theorem opFrameStart_burstKind (s : State) : (opFrameStart s).burstKind = s.burstKind := rfl
@[simp] theorem opFrameStart_msgBuf (s : State) : (opFrameStart s).msgBuf = s.msgBuf := rfl
@[simp] theorem opFrameStart_lastAppendTime (s : State) : (opFrameStart s).lastAppendTime = s.lastAppendTime := rfl
@[simp] theorem opFrameStart_totalBitsCompared (s : State) : (opFrameStart s).totalBitsCompared = s.totalBitsCompared := rfl
@[simp] theorem opFrameStart_bitErrors (s : State) : (opFrameStart s).bitErrors = s.bitErrors := rfl
@[simp] theorem opFrameStart_now (s : State) : (opFrameStart s).now = s.now := rfl
@[simp] theorem opFrameStart_cfg (s : State) : (opFrameStart s).cfg = s.cfg := rfl
@[simp] theorem opFrameStart_inputs (s : State) : (opFrameStart s).inputs = s.inputs := rfl
@[simp] theorem opFrameStart_iHigh (s : State) : (opFrameStart s).iHigh = s.iHigh := rfl
@[simp] theorem opFrameStart_iLow (s : State) : (opFrameStart s).iLow = s.iLow := rfl
@[simp] theorem opFrameStart_events (s : State) : (opFrameStart s).events = s.events ++ [.txStart s.wires.frameUnit] := rfl
@[simp] theorem opFrameStart_wires (s : State) : (opFrameStart s).wires = s.wires := rfl

/-! ### startFrame -/

@[simp] theorem startFrame_previousLevel (b : Byte) (s : State) : (startFrame b s).previousLevel = s.previousLevel := rfl
@[simp] theorem startFrame_currentLevel (b : Byte) (s : State) : (startFrame b s).currentLevel = s.currentLevel := rfl
@[simp] theorem startFrame_isTransmitting (b : Byte) (s : State) : (startFrame b s).isTransmitting = true := rfl
@[simp] theorem startFrame_txLevel (b : Byte) (s : State) : (startFrame b s).txLevel = false := rfl
@[simp] theorem startFrame_ctl (b : Byte) (s : State) : (startFrame b s).ctl = .txSeg := rfl
@[simp] theorem startFrame_timer (b : Byte) (s : State) : (startFrame b s).timer = s.cfg.tBit - 1 := rfl
@[simp] theorem startFrame_rxShift (b : Byte) (s : State) : (startFrame b s).rxShift = s.rxShift := rfl
@[simp] theorem startFrame_rxIdx (b : Byte) (s : State) : (startFrame b s).rxIdx = s.rxIdx := rfl
@[simp] theorem startFrame_txHold (b : Byte) (s : State) : (startFrame b s).txHold = b := rfl
@[simp] theorem startFrame_txSeg (b : Byte) (s : State) : (startFrame b s).txSeg = 0 := rfl
@[simp] theorem startFrame_relayIdx (b : Byte) (s : State) : (startFrame b s).relayIdx = s.relayIdx := rfl
@[simp] theorem startFrame_burstKind (b : Byte) (s : State) : (startFrame b s).burstKind = s.burstKind := rfl
@[simp] theorem startFrame_msgBuf (b : Byte) (s : State) : (startFrame b s).msgBuf = s.msgBuf := rfl
@[simp] theorem startFrame_lastAppendTime (b : Byte) (s : State) : (startFrame b s).lastAppendTime = s.lastAppendTime := rfl
@[simp] theorem startFrame_totalBitsCompared (b : Byte) (s : State) : (startFrame b s).totalBitsCompared = s.totalBitsCompared := rfl
@[simp] theorem startFrame_bitErrors (b : Byte) (s : State) : (startFrame b s).bitErrors = s.bitErrors := rfl
@[simp] theorem startFrame_now (b : Byte) (s : State) : (startFrame b s).now = s.now := rfl
@[simp] theorem startFrame_cfg (b : Byte) (s : State) : (startFrame b s).cfg = s.cfg := rfl
@[simp] theorem startFrame_inputs (b : Byte) (s : State) : (startFrame b s).inputs = s.inputs := rfl
@[simp] theorem startFrame_iHigh (b : Byte) (s : State) : (startFrame b s).iHigh = s.iHigh := rfl
@[simp] theorem startFrame_iLow (b : Byte) (s : State) : (startFrame b s).iLow = s.iLow := rfl
@[simp] theorem startFrame_events (b : Byte) (s : State) : (startFrame b s).events = s.events ++ [.txStart b] := rfl
@[simp] theorem startFrame_wires (b : Byte) (s : State) : (startFrame b s).wires = { s.wires with frameUnit := b } := rfl

/-! ### opSegAdvance -/

@[simp] theorem opSegAdvance_previousLevel (s : State) : (opSegAdvance s).previousLevel = s.previousLevel := rfl
@[simp] theorem opSegAdvance_currentLevel (s : State) : (opSegAdvance s).currentLevel = s.currentLevel := rfl
@[simp] theorem opSegAdvance_isTransmitting (s : State) : (opSegAdvance s).isTransmitting = s.isTransmitting := rfl
@[simp] theorem opSegAdvance_txLevel (s : State) : (opSegAdvance s).txLevel = segLevel s.txHold (s.txSeg.val + 1) := rfl
@[simp] theorem opSegAdvance_ctl (s : State) : (opSegAdvance s).ctl = s.ctl := rfl
@[simp] theorem opSegAdvance_timer (s : State) : (opSegAdvance s).timer = s.cfg.tBit - 1 := rfl
@[simp] theorem opSegAdvance_rxShift (s : State) : (opSegAdvance s).rxShift = s.rxShift := rfl
@[simp] theorem opSegAdvance_rxIdx (s : State) : (opSegAdvance s).rxIdx = s.rxIdx := rfl
@[simp] theorem opSegAdvance_txHold (s : State) : (opSegAdvance s).txHold = s.txHold := rfl
@[simp] theorem opSegAdvance_txSeg (s : State) : (opSegAdvance s).txSeg = s.txSeg + 1 := rfl
@[simp] theorem opSegAdvance_relayIdx (s : State) : (opSegAdvance s).relayIdx = s.relayIdx := rfl
@[simp] theorem opSegAdvance_burstKind (s : State) : (opSegAdvance s).burstKind = s.burstKind := rfl
@[simp] theorem opSegAdvance_msgBuf (s : State) : (opSegAdvance s).msgBuf = s.msgBuf := rfl
@[simp] theorem opSegAdvance_lastAppendTime (s : State) : (opSegAdvance s).lastAppendTime = s.lastAppendTime := rfl
@[simp] theorem opSegAdvance_totalBitsCompared (s : State) : (opSegAdvance s).totalBitsCompared = s.totalBitsCompared := rfl
@[simp] theorem opSegAdvance_bitErrors (s : State) : (opSegAdvance s).bitErrors = s.bitErrors := rfl
@[simp] theorem opSegAdvance_now (s : State) : (opSegAdvance s).now = s.now := rfl
@[simp] theorem opSegAdvance_cfg (s : State) : (opSegAdvance s).cfg = s.cfg := rfl
@[simp] theorem opSegAdvance_inputs (s : State) : (opSegAdvance s).inputs = s.inputs := rfl
@[simp] theorem opSegAdvance_iHigh (s : State) : (opSegAdvance s).iHigh = s.iHigh := rfl
@[simp] theorem opSegAdvance_iLow (s : State) : (opSegAdvance s).iLow = s.iLow := rfl
@[simp] theorem opSegAdvance_events (s : State) : (opSegAdvance s).events = s.events := rfl
@[simp] theorem opSegAdvance_wires (s : State) : (opSegAdvance s).wires = s.wires := rfl

/-! ### opClear -/

@[simp] theorem opClear_previousLevel (s : State) : (opClear s).previousLevel = s.previousLevel := rfl
@[simp] theorem opClear_currentLevel (s : State) : (opClear s).currentLevel = s.currentLevel := rfl
@[simp] theorem opClear_isTransmitting (s : State) : (opClear s).isTransmitting = s.isTransmitting := rfl
@[simp] theorem opClear_txLevel (s : State) : (opClear s).txLevel = s.txLevel := rfl
@[simp] theorem opClear_ctl (s : State) : (opClear s).ctl = s.ctl := rfl
@[simp] theorem opClear_timer (s : State) : (opClear s).timer = s.timer := rfl
@[simp] theorem opClear_rxShift (s : State) : (opClear s).rxShift = s.rxShift := rfl
@[simp] theorem opClear_rxIdx (s : State) : (opClear s).rxIdx = s.rxIdx := rfl
@[simp] theorem opClear_txHold (s : State) : (opClear s).txHold = s.txHold := rfl
@[simp] theorem opClear_txSeg (s : State) : (opClear s).txSeg = s.txSeg := rfl
@[simp] theorem opClear_relayIdx (s : State) : (opClear s).relayIdx = s.relayIdx := rfl
@[simp] theorem opClear_burstKind (s : State) : (opClear s).burstKind = s.burstKind := rfl
@[simp] theorem opClear_msgBuf (s : State) : (opClear s).msgBuf = [] := rfl
@[simp] theorem opClear_lastAppendTime (s : State) : (opClear s).lastAppendTime = s.lastAppendTime := rfl
@[simp] theorem opClear_totalBitsCompared (s : State) : (opClear s).totalBitsCompared = s.totalBitsCompared := rfl
@[simp] theorem opClear_bitErrors (s : State) : (opClear s).bitErrors = s.bitErrors := rfl
@[simp] theorem opClear_now (s : State) : (opClear s).now = s.now := rfl
@[simp] theorem opClear_cfg (s : State) : (opClear s).cfg = s.cfg := rfl
@[simp] theorem opClear_inputs (s : State) : (opClear s).inputs = s.inputs := rfl
@[simp] theorem opClear_iHigh (s : State) : (opClear s).iHigh = s.iHigh := rfl
@[simp] theorem opClear_iLow (s : State) : (opClear s).iLow = s.iLow := rfl
@[simp] theorem opClear_events (s : State) : (opClear s).events = s.events ++ [.clear] := rfl
@[simp] theorem opClear_wires (s : State) : (opClear s).wires = s.wires := rfl

/-! ### endDecode -/

@[simp] theorem endDecode_previousLevel (s : State) : (endDecode s).previousLevel = s.currentLevel := rfl
@[simp] theorem endDecode_currentLevel (s : State) : (endDecode s).currentLevel = s.currentLevel := rfl
@[simp] theorem endDecode_isTransmitting (s : State) : (endDecode s).isTransmitting = s.isTransmitting := rfl
@[simp] theorem endDecode_txLevel (s : State) : (endDecode s).txLevel = s.txLevel := rfl
@[simp] theorem endDecode_ctl (s : State) : (endDecode s).ctl = .poll := rfl
@[simp] theorem endDecode_timer (s : State) : (endDecode s).timer = s.timer := rfl
@[simp] theorem endDecode_rxShift (s : State) : (endDecode s).rxShift = s.rxShift := rfl
@[simp] theorem endDecode_rxIdx (s : State) : (endDecode s).rxIdx = s.rxIdx := rfl
@[simp] theorem endDecode_txHold (s : State) : (endDecode s).txHold = s.txHold := rfl
@[simp] theorem endDecode_txSeg (s : State) : (endDecode s).txSeg = s.txSeg := rfl
@[simp] theorem endDecode_relayIdx (s : State) : (endDecode s).relayIdx = s.relayIdx := rfl
@[simp] theorem endDecode_burstKind (s : State) : (endDecode s).burstKind = s.burstKind := rfl
@[simp] theorem endDecode_msgBuf (s : State) : (endDecode s).msgBuf = s.msgBuf := rfl
@[simp] theorem endDecode_lastAppendTime (s : State) : (endDecode s).lastAppendTime = s.lastAppendTime := rfl
@[simp] theorem endDecode_totalBitsCompared (s : State) : (endDecode s).totalBitsCompared = s.totalBitsCompared := rfl
@[simp] theorem endDecode_bitErrors (s : State) : (endDecode s).bitErrors = s.bitErrors := rfl
@[simp] theorem endDecode_now (s : State) : (endDecode s).now = s.now := rfl
@[simp] theorem endDecode_cfg (s : State) : (endDecode s).cfg = s.cfg := rfl
@[simp] theorem endDecode_inputs (s : State) : (endDecode s).inputs = s.inputs := rfl
@[simp] theorem endDecode_iHigh (s : State) : (endDecode s).iHigh = s.iHigh := rfl
@[simp] theorem endDecode_iLow (s : State) : (endDecode s).iLow = s.iLow := rfl
@[simp] theorem endDecode_events (s : State) : (endDecode s).events = s.events := rfl
@[simp] theorem endDecode_wires (s : State) : (endDecode s).wires = s.wires := rfl

/-! ### opWait -/

@[simp] theorem opWait_previousLevel (s : State) : (opWait s).previousLevel = s.previousLevel := rfl
@[simp] theorem opWait_currentLevel (s : State) : (opWait s).currentLevel = s.currentLevel := rfl
@[simp] theorem opWait_isTransmitting (s : State) : (opWait s).isTransmitting = s.isTransmitting := rfl
@[simp] theorem opWait_txLevel (s : State) : (opWait s).txLevel = s.txLevel := rfl
@[simp] theorem opWait_ctl (s : State) : (opWait s).ctl = s.ctl := rfl
@[simp] theorem opWait_timer (s : State) : (opWait s).timer = s.timer - 1 := rfl
@[simp] theorem opWait_rxShift (s : State) : (opWait s).rxShift = s.rxShift := rfl
@[simp] theorem opWait_rxIdx (s : State) : (opWait s).rxIdx = s.rxIdx := rfl
@[simp] theorem opWait_txHold (s : State) : (opWait s).txHold = s.txHold := rfl
@[simp] theorem opWait_txSeg (s : State) : (opWait s).txSeg = s.txSeg := rfl
@[simp] theorem opWait_relayIdx (s : State) : (opWait s).relayIdx = s.relayIdx := rfl
@[simp] theorem opWait_burstKind (s : State) : (opWait s).burstKind = s.burstKind := rfl
@[simp] theorem opWait_msgBuf (s : State) : (opWait s).msgBuf = s.msgBuf := rfl
@[simp] theorem opWait_lastAppendTime (s : State) : (opWait s).lastAppendTime = s.lastAppendTime := rfl
@[simp] theorem opWait_totalBitsCompared (s : State) : (opWait s).totalBitsCompared = s.totalBitsCompared := rfl
@[simp] theorem opWait_bitErrors (s : State) : (opWait s).bitErrors = s.bitErrors := rfl
@[simp] theorem opWait_now (s : State) : (opWait s).now = s.now := rfl
@[simp] theorem opWait_cfg (s : State) : (opWait s).cfg = s.cfg := rfl
@[simp] theorem opWait_inputs (s : State) : (opWait s).inputs = s.inputs := rfl
@[simp] theorem opWait_iHigh (s : State) : (opWait s).iHigh = s.iHigh := rfl
@[simp] theorem opWait_iLow (s : State) : (opWait s).iLow = s.iLow := rfl
@[simp] theorem opWait_events (s : State) : (opWait s).events = s.events := rfl
@[simp] theorem opWait_wires (s : State) : (opWait s).wires = s.wires := rfl

/-! ### beginTick -/

@[simp] theorem beginTick_previousLevel (s : State) : (beginTick s).previousLevel = s.previousLevel := rfl
@[simp] theorem beginTick_currentLevel (s : State) : (beginTick s).currentLevel = s.currentLevel := rfl
@[simp] theorem beginTick_isTransmitting (s : State) : (beginTick s).isTransmitting = s.isTransmitting := rfl
@[simp] theorem beginTick_txLevel (s : State) : (beginTick s).txLevel = s.txLevel := rfl
@[simp] theorem beginTick_ctl (s : State) : (beginTick s).ctl = s.ctl := rfl
@[simp] theorem beginTick_timer (s : State) : (beginTick s).timer = s.timer := rfl
@[simp] theorem beginTick_rxShift (s : State) : (beginTick s).rxShift = s.rxShift := rfl
@[simp] theorem beginTick_rxIdx (s : State) : (beginTick s).rxIdx = s.rxIdx := rfl
@[simp] theorem beginTick_txHold (s : State) : (beginTick s).txHold = s.txHold := rfl
@[simp] theorem beginTick_txSeg (s : State) : (beginTick s).txSeg = s.txSeg := rfl
@[simp] theorem beginTick_relayIdx (s : State) : (beginTick s).relayIdx = s.relayIdx := rfl
@[simp] theorem beginTick_burstKind (s : State) : (beginTick s).burstKind = s.burstKind := rfl
@[simp] theorem beginTick_msgBuf (s : State) : (beginTick s).msgBuf = s.msgBuf := rfl
@[simp] theorem beginTick_lastAppendTime (s : State) : (beginTick s).lastAppendTime = s.lastAppendTime := rfl
@[simp] theorem beginTick_totalBitsCompared (s : State) : (beginTick s).totalBitsCompared = s.totalBitsCompared := rfl
@[simp] theorem beginTick_bitErrors (s : State) : (beginTick s).bitErrors = s.bitErrors := rfl
@[simp] theorem beginTick_now (s : State) : (beginTick s).now = s.now := rfl
@[simp] theorem beginTick_cfg (s : State) : (beginTick s).cfg = s.cfg := rfl
@[simp] theorem beginTick_inputs (s : State) : (beginTick s).inputs = s.inputs := rfl
@[simp] theorem beginTick_iHigh (s : State) : (beginTick s).iHigh = s.iHigh := rfl
@[simp] theorem beginTick_iLow (s : State) : (beginTick s).iLow = s.iLow := rfl
@[simp] theorem beginTick_events (s : State) : (beginTick s).events = [] := rfl
@[simp] theorem beginTick_wires (s : State) : (beginTick s).wires = s.wires := rfl

/-! ### endTick -/

@[simp] theorem endTick_previousLevel (s : State) : (endTick s).previousLevel = s.previousLevel := rfl
@[simp] theorem endTick_currentLevel (s : State) : (endTick s).currentLevel = s.currentLevel := rfl
@[simp] theorem endTick_isTransmitting (s : State) : (endTick s).isTransmitting = s.isTransmitting := rfl
@[simp] theorem endTick_txLevel (s : State) : (endTick s).txLevel = s.txLevel := rfl
@[simp] theorem endTick_ctl (s : State) : (endTick s).ctl = s.ctl := rfl
@[simp] theorem endTick_timer (s : State) : (endTick s).timer = s.timer := rfl
@[simp] theorem endTick_rxShift (s : State) : (endTick s).rxShift = s.rxShift := rfl
@[simp] theorem endTick_rxIdx (s : State) : (endTick s).rxIdx = s.rxIdx := rfl
@[simp] theorem endTick_txHold (s : State) : (endTick s).txHold = s.txHold := rfl
@[simp] theorem endTick_txSeg (s : State) : (endTick s).txSeg = s.txSeg := rfl
@[simp] theorem endTick_relayIdx (s : State) : (endTick s).relayIdx = s.relayIdx := rfl
@[simp] theorem endTick_burstKind (s : State) : (endTick s).burstKind = s.burstKind := rfl
@[simp] theorem endTick_msgBuf (s : State) : (endTick s).msgBuf = s.msgBuf := rfl
@[simp] theorem endTick_lastAppendTime (s : State) : (endTick s).lastAppendTime = s.lastAppendTime := rfl
@[simp] theorem endTick_totalBitsCompared (s : State) : (endTick s).totalBitsCompared = s.totalBitsCompared := rfl
@[simp] theorem endTick_bitErrors (s : State) : (endTick s).bitErrors = s.bitErrors := rfl
@[simp] theorem endTick_now (s : State) : (endTick s).now = s.now + 1 := rfl
@[simp] theorem endTick_cfg (s : State) : (endTick s).cfg = s.cfg := rfl
@[simp] theorem endTick_inputs (s : State) : (endTick s).inputs = s.inputs.tail := rfl
@[simp] theorem endTick_iHigh (s : State) : (endTick s).iHigh = s.iHigh := rfl
@[simp] theorem endTick_iLow (s : State) : (endTick s).iLow = s.iLow := rfl
@[simp] theorem endTick_events (s : State) : (endTick s).events = s.events := rfl
@[simp] theorem endTick_wires (s : State) : (endTick s).wires = Wires.rest := rfl

end Sys2Proof.Machine
end

