-- ==== Sys2Proof/Laws/Ops.lean ====
section
/-! SUPPORT. For each shared operation, once, everything it can do. A proof about an operation cites its lemma here
instead of unfolding it. -/

namespace Sys2Proof.Machine

/-! ### Inputs -/

theorem currentInput_of_cons {s : State} {i : Input} {rest : List Input} (h : s.inputs = i :: rest) :
    currentInput s = i := by
  simp [currentInput, h]

theorem cmdNow_of_nil {s : State} (h : s.inputs = []) : cmdNow s = 0#10 := by
  simp [cmdNow, currentInput, h]

/-- The inputs of the tick do not depend on the event list. -/
@[simp] theorem cmdNow_beginTick (s : State) : cmdNow (beginTick s) = cmdNow s := rfl
@[simp] theorem intensityNow_beginTick (s : State) : intensityNow (beginTick s) = intensityNow s := rfl

/-- Past the listed inputs the intensity is in the input type (R30). -/
theorem intensityNow_of_nil_lt {s : State} (h : s.inputs = []) : intensityNow s < 2 ^ s.cfg.intW := by
  simp only [intensityNow, currentInput, h]
  exact Nat.mod_lt _ (Nat.two_pow_pos _)

/-! ### The completion actions -/

/-- ACT_BER in one record (R162, R180, R181). -/
theorem opActBer_eq (s : State) :
    opActBer s =
      opClear (opAccumulate (opCompare { s with
        totalBitsCompared := if s.cfg.berPerMessage then 0 else s.totalBitsCompared
        bitErrors := if s.cfg.berPerMessage then 0 else s.bitErrors })) := by
  unfold opActBer
  cases h : s.cfg.berPerMessage <;> simp [opBerClear]

/-- ACT_RELAY with a unit to send (R163). -/
theorem opActRelay_of_cons {s : State} {u : Byte} {us : List Byte} (h : s.msgBuf = u :: us) :
    opActRelay s = startFrame u { s with relayIdx := 0, burstKind := .relay } := by
  simp [opActRelay, msgRead, h]

/-- COMPLETE, by the action (R160). -/
theorem opComplete_cases (s : State) :
    (s.cfg.action = .none ∧ opComplete s = opClear (emit (.msg s.msgBuf s.wires.cause) s)) ∨
    (s.cfg.action = .ber ∧ opComplete s = opActBer (emit (.msg s.msgBuf s.wires.cause) s)) ∨
    (s.cfg.action = .relay ∧ opComplete s = opActRelay (emit (.msg s.msgBuf s.wires.cause) s)) := by
  unfold opComplete opActNone
  cases h : s.cfg.action <;> simp

/-- COMPLETE_TERM (R158). -/
theorem opCompleteTerm_cases (s : State) :
    (s.wires.decData ≠ s.cfg.terminator ∧ opCompleteTerm s = s) ∨
    (s.wires.decData = s.cfg.terminator ∧ opCompleteTerm s = completeWith .term s) := by
  unfold opCompleteTerm isTerminator
  by_cases h : s.wires.decData = s.cfg.terminator <;> simp [h]

/-- The idle test (R159). -/
theorem idleExpired_iff (s : State) :
    idleExpired s = true ↔ 0 < s.msgBuf.length ∧ s.cfg.tIdle < s.now - s.lastAppendTime := by
  simp [idleExpired]

/-- COMPLETE_IDLE (R159). -/
theorem opCompleteIdle_cases (s : State) :
    (idleExpired s = false ∧ opCompleteIdle s = s) ∨
    (idleExpired s = true ∧ opCompleteIdle s = completeWith .idle s) := by
  unfold opCompleteIdle
  cases h : idleExpired s <;> simp

/-- TAIL (R86). -/
theorem opTail_cases (s : State) :
    (opTail s = s ∧ (s.cfg.policy = .terminator ∨ idleExpired s = false)) ∨
    (s.cfg.policy = .idleTimeout ∧ idleExpired s = true ∧ opTail s = completeWith .idle s) := by
  unfold opTail
  cases h : s.cfg.policy
  · simp
  · rcases opCompleteIdle_cases s with ⟨h1, h2⟩ | ⟨h1, h2⟩ <;> simp [h1, h2]

/-! ### Delivery -/

/-- APPEND (R157). -/
theorem opAppend_cases (s : State) :
    (s.cfg.policy = .idleTimeout ∧
      opAppend s = emit (.append s.wires.decData)
        { s with msgBuf := s.msgBuf ++ [s.wires.decData], lastAppendTime := s.now }) ∨
    (s.cfg.policy = .terminator ∧
      opAppend s = opCompleteTerm (emit (.append s.wires.decData)
        { s with msgBuf := s.msgBuf ++ [s.wires.decData], lastAppendTime := s.now })) := by
  unfold opAppend
  cases h : s.cfg.policy <;> simp

/-- DELIVER (R156). -/
theorem opDeliver_cases (s : State) :
    (s.wires.decAbort = true ∧ opDeliver s = s) ∨
    (s.wires.decAbort = false ∧ isSentinel s.cfg s.wires.decData = true ∧
      opDeliver s = emit (.drop s.wires.decData) s) ∨
    (s.wires.decAbort = false ∧ isSentinel s.cfg s.wires.decData = false ∧ opDeliver s = opAppend s) := by
  unfold opDeliver
  cases h : s.wires.decAbort
  · cases h' : isSentinel s.cfg s.wires.decData <;> simp
  · simp

/-! ### The end of a burst -/

/-- AFTER_BURST (R134). -/
theorem afterBurst_cases (s : State) :
    (s.burstKind = .relay ∧ afterBurst s = opClear { s with ctl := .poll }) ∨
    (s.burstKind = .host ∧ afterBurst s = opTail { s with ctl := .poll }) := by
  unfold afterBurst
  cases h : s.burstKind <;> simp

/-- BURST_END (R134). -/
theorem opBurstEnd_cases (s : State) :
    (0 < s.cfg.tSettle ∧ opBurstEnd s = { s with ctl := .settle, timer := s.cfg.tSettle - 1 }) ∨
    (s.cfg.tSettle = 0 ∧ opBurstEnd s = afterBurst s) := by
  unfold opBurstEnd
  by_cases h : 0 < s.cfg.tSettle
  · simp [h]
  · have : s.cfg.tSettle = 0 := by omega
    simp [this]

/-- The next unit of a relay burst exists exactly when R133 says so. -/
theorem nextRelayUnit_eq_some {s : State} {u : Byte} :
    nextRelayUnit s = some u ↔ s.burstKind = .relay ∧ s.msgBuf[s.relayIdx + 1]? = some u := by
  unfold nextRelayUnit msgRead
  cases h : s.burstKind <;> simp

/-- FRAME_END (R133). -/
theorem opFrameEnd_cases (s : State) :
    (∃ u, s.burstKind = .relay ∧ s.msgBuf[s.relayIdx + 1]? = some u ∧
      opFrameEnd s = startFrame u
        (emit .txDone { s with isTransmitting := false, relayIdx := s.relayIdx + 1 })) ∨
    ((s.burstKind = .host ∨ s.msgBuf.length ≤ s.relayIdx + 1) ∧
      opFrameEnd s = opBurstEnd (emit .txDone { s with isTransmitting := false })) := by
  unfold opFrameEnd
  cases hk : s.burstKind
  · simp [nextRelayUnit, emit]
  · cases hu : s.msgBuf[s.relayIdx + 1]? with
    | none => simp_all [nextRelayUnit, msgRead, emit]
    | some u => simp [nextRelayUnit, msgRead, emit, hu]

/-! ### Decoder and edge detector -/

/-- DEC_GUARD (R112). -/
theorem opDecGuard_cases (s : State) :
    (level s.cfg (intensityNow s) = true ∧
      opDecGuard s = opTail (deliverWith true 0#8 (endDecode (emit .abort (opSample s))))) ∨
    (level s.cfg (intensityNow s) = false ∧
      opDecGuard s = { opSample s with ctl := .rxData, timer := s.cfg.tBit - 1 }) := by
  unfold opDecGuard
  cases h : level s.cfg (intensityNow s) <;> simp [h]

/-- An aborted decode delivers nothing (R156). -/
theorem deliverWith_abort (u : Byte) (s : State) :
    deliverWith true u s = { s with wires := { s.wires with decAbort := true, decData := u } } := by
  simp [deliverWith, opDeliver]

/-- EDGE (R101, R102). -/
theorem opEdge_cases (s : State) :
    (s.previousLevel = true ∧ level s.cfg (intensityNow s) = false ∧
      opEdge s = opDecStart (emit .start { opSample s with currentLevel := false })) ∨
    ((s.previousLevel = false ∨ level s.cfg (intensityNow s) = true) ∧
      opEdge s = opTail { opSample s with
        currentLevel := level s.cfg (intensityNow s), previousLevel := level s.cfg (intensityNow s) }) := by
  unfold opEdge startBit
  cases hp : s.previousLevel <;> cases hl : level s.cfg (intensityNow s) <;> simp [hp, hl]

/-! ### The step -/

/-- A bit written by DEC_SAMPLE, and the bits it keeps (R114). -/
theorem writeBit_getLsbD (v : Byte) (i : Fin 8) (x : Level) (j : Nat) (hj : j < 8) :
    (writeBit v i x).getLsbD j = if j = i.val then x else v.getLsbD j := by
  have hi := i.isLt
  cases x
  · simp only [writeBit, Bool.false_eq_true, if_false, BitVec.getLsbD_and, BitVec.getLsbD_not,
      BitVec.getLsbD_shiftLeft, BitVec.getLsbD_one, hj, decide_true, Bool.true_and]
    by_cases h : j = i.val
    · simp [h]
    · by_cases h2 : j < i.val
      · simp [h, h2]
      · have : j - i.val ≠ 0 := by omega
        simp [h, h2, this]
  · simp only [writeBit, if_true, BitVec.getLsbD_or, BitVec.getLsbD_shiftLeft, BitVec.getLsbD_one, hj,
      decide_true, Bool.true_and]
    by_cases h : j = i.val
    · simp [h]
    · by_cases h2 : j < i.val
      · simp [h, h2]
      · have : j - i.val ≠ 0 := by omega
        simp [h, h2, this]

/-- At most eight bits of a unit are 1. -/
theorem popcount_le (v : Byte) : popcount v ≤ 8 := by
  have := List.countP_le_length (p := fun i => v.getLsbD i) (l := List.range 8)
  simpa [popcount] using this

/-- R180 corner case (e): no more errors than bits. -/
theorem compareUnits_errs_le (ref rcv : List Byte) : (compareUnits ref rcv).2 ≤ (compareUnits ref rcv).1 := by
  induction ref generalizing rcv with
  | nil => simp [compareUnits]
  | cons r rs ih =>
    cases rcv with
    | nil => simp [compareUnits]
    | cons u us =>
      have h1 := ih us
      have h2 := popcount_le (r ^^^ u)
      simp only [compareUnits, List.length_cons, List.zipWith_cons_cons, List.sum_cons] at h1 ⊢
      omega

end Sys2Proof.Machine
end

