-- ==== Sys2Proof/Laws/Completion.lean ====
section
/-! SUPPORT. What a completion, a delivery and a tail do to the sequencer state, the events and the totals, said once.
A statement about a whole step cites these beside `step_cases`. -/

namespace Sys2Proof.Machine

/-- What an operation that may complete a message did: nothing of it, or one completion of a non-empty buffer. The
events it added are `new`; a relay is the only way `ctl` changes, a comparison the only way a total does. -/
structure Completes (s t : State) : Prop where
  cfg : t.cfg = s.cfg
  previousLevel : t.previousLevel = s.previousLevel
  /-- The events added, at most one of them a MSG, none of an empty message, no START. -/
  events : ∃ new, t.events = s.events ++ new ∧ new.countP isMsg ≤ 1 ∧ Event.start ∉ new ∧
    (∀ c, Event.msg [] c ∉ new) ∧
    (t.ctl = s.ctl ∨ (t.ctl = .txSeg ∧ s.cfg.action = .relay ∧ ∃ e ∈ new, isMsg e = true)) ∧
    ((s.totalBitsCompared ≤ t.totalBitsCompared ∧ s.bitErrors ≤ t.bitErrors) ∨
      (s.cfg.action = .ber ∧ s.cfg.berPerMessage = true ∧
        ∃ bits errs total errors, Event.ber bits errs total errors ∈ new))

/-- Doing nothing completes nothing. -/
theorem Completes.refl (s : State) : Completes s s where
  cfg := rfl
  previousLevel := rfl
  events := ⟨[], by simp⟩

/-- COMPLETE of a non-empty buffer, by its three actions (R160 to R163). -/
theorem completeWith_completes {s : State} (c : Cause) (h : s.msgBuf ≠ []) : Completes s (completeWith c s) := by
  obtain ⟨u, us, hu⟩ := List.exists_cons_of_ne_nil h
  unfold completeWith opComplete
  cases ha : s.cfg.action
  · refine ⟨rfl, rfl, [.msg s.msgBuf c, .clear], ?_⟩
    simp [opActNone, opClear, emit, isMsg, hu, List.countP_cons]
  · cases hb : s.cfg.berPerMessage
    · refine ⟨?_, ?_, [.msg s.msgBuf c, .ber (compareUnits s.cfg.ref s.msgBuf).1 (compareUnits s.cfg.ref s.msgBuf).2
        (s.totalBitsCompared + (compareUnits s.cfg.ref s.msgBuf).1) (s.bitErrors + (compareUnits s.cfg.ref s.msgBuf).2), .clear], ?_⟩
      all_goals simp [opActBer, opAccumulate, opCompare, opClear, emit, isMsg, hu, ha, hb, List.countP_cons]
    · refine ⟨?_, ?_, [.msg s.msgBuf c, .ber (compareUnits s.cfg.ref s.msgBuf).1 (compareUnits s.cfg.ref s.msgBuf).2
        (compareUnits s.cfg.ref s.msgBuf).1 (compareUnits s.cfg.ref s.msgBuf).2, .clear], ?_⟩
      all_goals simp [opActBer, opAccumulate, opCompare, opBerClear, opClear, emit, isMsg, hu, ha, hb, List.countP_cons]
  · refine ⟨?_, ?_, [.msg s.msgBuf c, .txStart u], ?_⟩
    all_goals simp [opActRelay, msgRead, startFrame, opFrameStart, emit, isMsg, hu, ha, List.countP_cons]

/-- TAIL (R86): it completes under the idle policy only. -/
theorem opTail_completes (s : State) :
    Completes s (opTail s) ∧ (opTail s = s ∨ s.cfg.policy = .idleTimeout) := by
  rcases opTail_cases s with ⟨h, -⟩ | ⟨hp, hi, h⟩
  · rw [h]; exact ⟨.refl s, .inl rfl⟩
  · rw [h]
    have := ((idleExpired_iff s).mp hi).1
    exact ⟨completeWith_completes .idle (List.ne_nil_of_length_pos this), .inr hp⟩

/-- Events emitted before a completion, none of them a MSG or a START, and a change of the buffer, do not matter. -/
theorem Completes.after {s s' t : State} (h : Completes s' t) (pre : List Event)
    (hcfg : s'.cfg = s.cfg) (hprev : s'.previousLevel = s.previousLevel) (hctl : s'.ctl = s.ctl)
    (htotal : s'.totalBitsCompared = s.totalBitsCompared) (herr : s'.bitErrors = s.bitErrors)
    (hev : s'.events = s.events ++ pre) (hmsg : ∀ e ∈ pre, isMsg e = false) (hstart : Event.start ∉ pre) :
    Completes s t where
  cfg := h.cfg.trans hcfg
  previousLevel := h.previousLevel.trans hprev
  events := by
    obtain ⟨new, he, hc, hs, hm, hk, hb⟩ := h.events
    rw [hcfg, hctl] at hk
    rw [hcfg, htotal, herr] at hb
    have h0 : pre.countP isMsg = 0 := by simpa [List.countP_eq_zero] using hmsg
    refine ⟨pre ++ new, by simp [he, hev], by simp [h0, hc], by simp [hs, hstart], fun c hin => ?_, ?_, ?_⟩
    · rcases List.mem_append.mp hin with hin | hin
      · simpa [isMsg] using hmsg _ hin
      · exact hm c hin
    · rcases hk with hk | ⟨h1, h2, e, he, hem⟩
      · exact .inl hk
      · exact .inr ⟨h1, h2, e, List.mem_append_right _ he, hem⟩
    · rcases hb with hb | ⟨h1, h2, b, r, tt, er, hin⟩
      · exact .inl hb
      · exact .inr ⟨h1, h2, b, r, tt, er, List.mem_append_right _ hin⟩

/-- DELIVER, then TAIL (R112, R115): the two policies exclude each other, so one completion at most (R167). -/
theorem deliver_tail_completes (s : State) : Completes s (opTail (opDeliver s)) := by
  rcases opDeliver_cases s with ⟨-, hd⟩ | ⟨-, -, hd⟩ | ⟨-, -, hd⟩ <;> rw [hd]
  · exact (opTail_completes s).1
  · exact (opTail_completes _).1.after [.drop s.wires.decData] rfl rfl rfl rfl rfl rfl (by simp [isMsg]) (by simp)
  · rcases opAppend_cases s with ⟨-, ha⟩ | ⟨hp, ha⟩ <;> rw [ha]
    · exact (opTail_completes _).1.after [.append s.wires.decData] rfl rfl rfl rfl rfl rfl (by simp [isMsg]) (by simp)
    · generalize hq : emit (.append s.wires.decData)
        { s with msgBuf := s.msgBuf ++ [s.wires.decData], lastAppendTime := s.now } = q
      have hc : Completes q (opCompleteTerm q) := by
        rcases opCompleteTerm_cases q with ⟨-, h⟩ | ⟨-, h⟩ <;> rw [h]
        · exact .refl q
        · exact completeWith_completes .term (by subst hq; simp [emit])
      have hpol : (opCompleteTerm q).cfg.policy = .terminator := by rw [hc.cfg]; subst hq; simpa [emit] using hp
      have ht : opTail (opCompleteTerm q) = opCompleteTerm q := by unfold opTail; rw [hpol]
      rw [ht]
      subst hq
      exact hc.after [.append s.wires.decData] rfl rfl rfl rfl rfl rfl (by simp [isMsg]) (by simp)

end Sys2Proof.Machine
end

