-- ==== Sys2Proof/Laws/PerInstr.lean ====
section
/-! SUPPORT. What is said of every operation, one lemma per constructor. -/

namespace Sys2Proof.Laws.EncodesItsRow

/-- The word of `i` matches its row of spec/opcode_table.json and no other bit pattern of that row's mask. -/
def Statement (i : Instr) : Prop := (encode i).toNat &&& (tableRow i).mask = (tableRow i).pattern

theorem send (b : Byte) : Statement (.send b) := by
  revert b; unfold Statement; decide
theorem frame (b : Byte) : Statement (.frame b) := by
  revert b; unfold Statement; decide
theorem nop : Statement .nop := by unfold Statement; decide
theorem berReset : Statement .berReset := by unfold Statement; decide
theorem cmdReserved : Statement .cmdReserved := by unfold Statement; decide
theorem idle : Statement .idle := by unfold Statement; decide
theorem poll : Statement .poll := by unfold Statement; decide
theorem tail : Statement .tail := by unfold Statement; decide
theorem wait : Statement .wait := by unfold Statement; decide
theorem sample : Statement .sample := by unfold Statement; decide
theorem edge : Statement .edge := by unfold Statement; decide
theorem decStart : Statement .decStart := by unfold Statement; decide
theorem decGuard : Statement .decGuard := by unfold Statement; decide
theorem decSample : Statement .decSample := by unfold Statement; decide
theorem decReturn : Statement .decReturn := by unfold Statement; decide
theorem frameStart : Statement .frameStart := by unfold Statement; decide
theorem segAdvance : Statement .segAdvance := by unfold Statement; decide
theorem frameEnd : Statement .frameEnd := by unfold Statement; decide
theorem burstEnd : Statement .burstEnd := by unfold Statement; decide
theorem settleEnd : Statement .settleEnd := by unfold Statement; decide
theorem deliver : Statement .deliver := by unfold Statement; decide
theorem append : Statement .append := by unfold Statement; decide
theorem completeTerm : Statement .completeTerm := by unfold Statement; decide
theorem completeIdle : Statement .completeIdle := by unfold Statement; decide
theorem complete : Statement .complete := by unfold Statement; decide
theorem actNone : Statement .actNone := by unfold Statement; decide
theorem actBer : Statement .actBer := by unfold Statement; decide
theorem actRelay : Statement .actRelay := by unfold Statement; decide
theorem clear : Statement .clear := by unfold Statement; decide
theorem compare : Statement .compare := by unfold Statement; decide
theorem accumulate : Statement .accumulate := by unfold Statement; decide
theorem berClear : Statement .berClear := by unfold Statement; decide
theorem berRatio : Statement .berRatio := by unfold Statement; decide

end Sys2Proof.Laws.EncodesItsRow
end

