-- ==== Sys2Proof/Machine/System.lean ====
section
/-! DEFINITION. Several nodes in lock step on the reference channel (R10, R52, R217). This is the environment of a
node, not a rule of the block (log 13). -/

namespace Sys2Proof.Machine

/-- R52: this tick's intensity follows another node's emitted level, its command word as it is. -/
def feed (emitted : Level) (s : State) : State :=
  { s with inputs := { cmd := cmdNow s, intensity := if emitted then s.iHigh else s.iLow } :: s.inputs.tail }

/-- A node fed by the node at index `src` of the net, or by its own listed inputs. -/
def feedFrom (net : List State) (src : Option Nat) (s : State) : State :=
  match src with
  | none => s
  | some k =>
    match net[k]? with
    | none => s
    | some a => feed a.txLevel s

/-- One tick of a whole net: every node reads the levels of the tick's start (R5, R52) and makes one step. -/
def lockStep (links : List (Option Nat)) (net : List State) : List (Host.Outcome State Fault Refusal) :=
  List.zipWith (fun src s => step (feedFrom net src s)) links net

end Sys2Proof.Machine
end

