-- ==== Sys2Proof/Laws/Step.lean ====
section
/-! SUPPORT. What one step can do, said once: every statement about a step starts from these. -/

namespace Sys2Proof.Machine

/-- The arm of POLL (R82). -/
theorem execPoll_cases (s : State) :
    (decodeCommand (cmdNow s) = .reserved ∧ execPoll s = .refused .reservedCommand) ∨
    (decodeCommand (cmdNow s) = .berReset ∧ execPoll s = .next (edgeOrTail (opBerClear s))) ∨
    (decodeCommand (cmdNow s) = .nop ∧ execPoll s = .next (edgeOrTail s)) ∨
    (∃ b, decodeCommand (cmdNow s) = .send b ∧ execPoll s = .next (opSend b s)) := by
  unfold execPoll
  cases h : decodeCommand (cmdNow s) <;> simp

/-- The operation of each tick (R81), by the sequencer state. -/
theorem select_cases (s : State) :
    (s.ctl = .poll ∧ select s = .poll) ∨
    (s.ctl ≠ .poll ∧ 0 < s.timer ∧ select s = .wait) ∨
    (s.timer = 0 ∧
      ((s.ctl = .rxGuard ∧ select s = .decGuard) ∨ (s.ctl = .rxData ∧ select s = .decSample) ∨
       (s.ctl = .rxTrail ∧ select s = .decReturn) ∨
       (s.ctl = .txSeg ∧ s.txSeg.val < 9 ∧ select s = .segAdvance) ∨
       (s.ctl = .txSeg ∧ s.txSeg.val = 9 ∧ select s = .frameEnd) ∨
       (s.ctl = .settle ∧ select s = .settleEnd))) := by
  have hk := s.txSeg.isLt
  unfold select
  rcases Nat.eq_zero_or_pos s.timer with ht | ht
  · cases hc : s.ctl <;> simp [ht]
    by_cases h9 : s.txSeg.val < 9
    · simp [h9]
    · have : s.txSeg.val = 9 := by omega
      simp [this]
  · cases hc : s.ctl <;> simp [ht]

/-- A step that answers next ran the selected operation under a legal configuration and input. -/
theorem step_eq_next {s t : State} (h : step s = .next t) :
    s.cfg.legal = true ∧ inputLegal s = true ∧
      ∃ u, exec (select s) (beginTick s) = .next u ∧ t = endTick u := by
  unfold step at h
  cases hl : s.cfg.legal
  · simp [hl] at h
  · cases hi : inputLegal s
    · simp [hl, hi] at h
    · simp only [hl, hi, if_true] at h
      cases he : exec (select s) (beginTick s) with
      | next u => exact ⟨rfl, rfl, u, rfl, by rw [he] at h; simpa [mapNext] using h.symm⟩
      | fault r => rw [he] at h; simp [mapNext] at h
      | refused r => rw [he] at h; simp [mapNext] at h

/-- Everything a step can do, guards included: the ten operations of R81 and, at POLL, the command (R82). -/
theorem step_cases {s t : State} (h : step s = .next t) :
    (s.ctl = .poll ∧ decodeCommand (cmdNow s) = .nop ∧ t = endTick (edgeOrTail (beginTick s))) ∨
    (s.ctl = .poll ∧ decodeCommand (cmdNow s) = .berReset ∧
      t = endTick (edgeOrTail (opBerClear (beginTick s)))) ∨
    (s.ctl = .poll ∧ ∃ b, decodeCommand (cmdNow s) = .send b ∧ t = endTick (opSend b (beginTick s))) ∨
    (s.ctl ≠ .poll ∧ 0 < s.timer ∧ t = endTick (opWait (beginTick s))) ∨
    (s.ctl = .rxGuard ∧ s.timer = 0 ∧ t = endTick (opDecGuard (beginTick s))) ∨
    (s.ctl = .rxData ∧ s.timer = 0 ∧ t = endTick (opDecSample (beginTick s))) ∨
    (s.ctl = .rxTrail ∧ s.timer = 0 ∧ t = endTick (opDecReturn (beginTick s))) ∨
    (s.ctl = .txSeg ∧ s.timer = 0 ∧ s.txSeg.val < 9 ∧ t = endTick (opSegAdvance (beginTick s))) ∨
    (s.ctl = .txSeg ∧ s.timer = 0 ∧ s.txSeg.val = 9 ∧ t = endTick (opFrameEnd (beginTick s))) ∨
    (s.ctl = .settle ∧ s.timer = 0 ∧ t = endTick (opSettleEnd (beginTick s))) := by
  obtain ⟨-, -, u, hu, rfl⟩ := step_eq_next h
  rcases select_cases s with ⟨hc, hs⟩ | ⟨hc, ht, hs⟩ | ⟨ht, hs⟩
  · rw [hs] at hu
    rcases execPoll_cases (beginTick s) with ⟨hd, he⟩ | ⟨hd, he⟩ | ⟨hd, he⟩ | ⟨b, hd, he⟩ <;>
      simp only [exec, he, cmdNow_beginTick] at hu hd
    · cases hu
    · cases hu; exact .inr (.inl ⟨hc, hd, rfl⟩)
    · cases hu; exact .inl ⟨hc, hd, rfl⟩
    · cases hu; exact .inr (.inr (.inl ⟨hc, b, hd, rfl⟩))
  · simp only [hs, exec, execWait, beginTick_timer, ht, if_true] at hu
    cases hu
    exact .inr (.inr (.inr (.inl ⟨hc, ht, rfl⟩)))
  · rcases hs with ⟨hc, hs⟩ | ⟨hc, hs⟩ | ⟨hc, hs⟩ | ⟨hc, h9, hs⟩ | ⟨hc, h9, hs⟩ | ⟨hc, hs⟩ <;>
      simp only [hs, exec, execDecGuard, execDecSample, execDecReturn, execSegAdvance, execFrameEnd, execSettleEnd,
        beginTick_txSeg] at hu
    · cases hu; simp [hc, ht]
    · cases hu; simp [hc, ht]
    · cases hu; simp [hc, ht]
    · simp only [h9, if_true] at hu; cases hu; simp [hc, ht, h9]
    · cases hu; simp [hc, ht, h9]
    · cases hu; simp [hc, ht]

/-- A tick of a blocking wait (R87), as a step. -/
theorem step_wait {s : State} (hl : s.cfg.legal = true) (hi : inputLegal s = true) (hc : s.ctl ≠ .poll)
    (ht : 0 < s.timer) :
    step s = .next { s with timer := s.timer - 1, now := s.now + 1, inputs := s.inputs.tail, events := [],
                            wires := Wires.rest } := by
  rcases select_cases s with ⟨h, -⟩ | ⟨-, -, hs⟩ | ⟨h, -⟩
  · exact absurd h hc
  · simp [step, hl, hi, hs, exec, execWait, ht, mapNext, opWait, endTick, beginTick]
  · omega

end Sys2Proof.Machine
end

