-- ==== Sys2Proof/Tests/Slice0.lean ====
section
/-! SUPPORT. The model's own tests: decoding of words written out from the spec's encodings, the well-formedness smoke
tests, one small step per operation with the result the spec gives, and for every statement with hypotheses a state that
meets them. -/

open Sys2Proof Sys2Proof.Machine

namespace Sys2Proof.Tests

/-! ### Helpers -/

/-- The next state, if there is one. -/
def after (o : Host.Outcome State Fault Refusal) : Option State :=
  match o with
  | .next s => some s
  | .fault _ => none
  | .refused _ => none

/-- Whether an outcome is a next state. -/
def runs (o : Host.Outcome State Fault Refusal) : Bool := (after o).isSome

/-- One tick of light with no command. -/
def light (n : Nat) : Input := { cmd := 0#10, intensity := n }

/-- A node of 95_test_vectors.md section 1 with T_BIT = 4, one tick of high light listed. -/
def node : State := { State.reset with inputs := [light 800] }

/-- The same node under another configuration. -/
def nodeWith (c : Cfg) : State := { node with cfg := c }

/-! ### Well-formedness: each check refuses an ill-formed term -/

theorem test_wf_refuses_reserved_command : Instr.wellFormed .cmdReserved = false := by decide
theorem test_wf_accepts_send : Instr.wellFormed (.send 0x00#8) = true := by decide
theorem test_legal_accepts_reset : Config.atReset.legal = true := by decide
theorem test_legal_refuses_bit_period_1 : Cfg.legal { Config.atReset with tBit := 1 } = false := by decide
theorem test_legal_refuses_no_intensity_bits :
    Cfg.legal { Config.atReset with intW := 0, threshold := 0 } = false := by decide
theorem test_legal_refuses_threshold_too_wide : Cfg.legal { Config.atReset with threshold := 1024 } = false := by decide
theorem test_input_refuses_intensity_too_wide : inputLegal { node with inputs := [light 1024] } = false := by decide

/-! ### Decoding: words written bit by bit from R66, R61, R63 and R70 -/

theorem test_decode_commands :
    decode (.cmd 0b0000000000#10) = .ok .nop ∧ decode (.cmd 0b0011111111#10) = .ok .nop ∧
    decode (.cmd 0b0101001000#10) = .ok (.send 0x48#8) ∧ decode (.cmd 0b1000000000#10) = .ok .berReset ∧
    decode (.cmd 0b1011111111#10) = .ok .berReset ∧ decode (.cmd 0b1100000000#10) = .ok .cmdReserved :=
  ⟨rfl, rfl, rfl, rfl, rfl, rfl⟩

theorem test_decode_wire_symbols :
    decode (.frame 0b1010010000#10) = .ok (.frame 0x48#8) ∧ decode (.frame 0b1000000010#10) = .ok (.frame 0x01#8) ∧
    decode (.frame 0b1100000000#10) = .ok (.frame 0x80#8) ∧ decode (.level 0b1#1) = .ok .idle ∧
    decode (.frame 0b1010010001#10) = .error .startNotLow ∧ decode (.frame 0b0010010000#10) = .error .stopNotHigh ∧
    decode (.level 0b0#1) = .error .levelLow :=
  ⟨rfl, rfl, rfl, rfl, rfl, rfl, rfl⟩

theorem test_decode_identifiers_0_to_13 :
    decode (.opId 0b00000#5) = .ok .poll ∧
    decode (.opId 0b00001#5) = .ok .tail ∧
    decode (.opId 0b00010#5) = .ok .wait ∧
    decode (.opId 0b00011#5) = .ok .sample ∧
    decode (.opId 0b00100#5) = .ok .edge ∧
    decode (.opId 0b00101#5) = .ok .decStart ∧
    decode (.opId 0b00110#5) = .ok .decGuard ∧
    decode (.opId 0b00111#5) = .ok .decSample ∧
    decode (.opId 0b01000#5) = .ok .decReturn ∧
    decode (.opId 0b01001#5) = .ok .frameStart ∧
    decode (.opId 0b01010#5) = .ok .segAdvance ∧
    decode (.opId 0b01011#5) = .ok .frameEnd ∧
    decode (.opId 0b01100#5) = .ok .burstEnd ∧
    decode (.opId 0b01101#5) = .ok .settleEnd :=
  ⟨rfl, rfl, rfl, rfl, rfl, rfl, rfl, rfl, rfl, rfl, rfl, rfl, rfl, rfl⟩

theorem test_decode_identifiers_14_to_26 :
    decode (.opId 0b01110#5) = .ok .deliver ∧
    decode (.opId 0b01111#5) = .ok .append ∧
    decode (.opId 0b10000#5) = .ok .completeTerm ∧
    decode (.opId 0b10001#5) = .ok .completeIdle ∧
    decode (.opId 0b10010#5) = .ok .complete ∧
    decode (.opId 0b10011#5) = .ok .actNone ∧
    decode (.opId 0b10100#5) = .ok .actBer ∧
    decode (.opId 0b10101#5) = .ok .actRelay ∧
    decode (.opId 0b10110#5) = .ok .clear ∧
    decode (.opId 0b10111#5) = .ok .compare ∧
    decode (.opId 0b11000#5) = .ok .accumulate ∧
    decode (.opId 0b11001#5) = .ok .berClear ∧
    decode (.opId 0b11010#5) = .ok .berRatio :=
  ⟨rfl, rfl, rfl, rfl, rfl, rfl, rfl, rfl, rfl, rfl, rfl, rfl, rfl⟩

theorem test_decode_unused_identifier : decode (.opId 0b11011#5) = .error .unusedOpId := rfl

theorem test_decode_bytes :
    decodeBytes .cmd [0x48#8, 0x01#8] = .ok (.send 0x48#8) ∧ decodeBytes .frame [0x90#8, 0x02#8] = .ok (.frame 0x48#8) ∧
    decodeBytes .opId [0x07#8] = .ok .decSample ∧ decodeBytes .cmd [0x00#8, 0x04#8] = .error .tooWide :=
  ⟨rfl, rfl, rfl, rfl⟩

/-- The frame words of the table of 95_test_vectors.md section 1. -/
theorem test_encode_frame_words :
    encode (.frame 0x00#8) = .frame 0x200#10 ∧ encode (.frame 0x0A#8) = .frame 0x214#10 ∧
    encode (.frame 0x55#8) = .frame 0x2AA#10 ∧ encode (.frame 0xFF#8) = .frame 0x3FE#10 ∧
    encode (.send 0xA5#8) = .cmd 0x1A5#10 := by decide

theorem test_table_words :
    decodeTableWord 16 0x000 = some .nop ∧ decodeTableWord 16 0x148 = some (.send 0x48#8) ∧
    decodeTableWord 16 0x200 = some .berReset ∧ decodeTableWord 16 0x300 = some .cmdReserved ∧
    decodeTableWord 16 0x290 = some (.frame 0x48#8) ∧ decodeTableWord 1 1 = some .idle ∧
    decodeTableWord 8 1 = some .tail ∧ decodeTableWord 16 9 = some .frameStart ∧
    decodeTableWord 24 0x17 = some .compare ∧ decodeTableWord 32 0x1A = some .berRatio ∧
    decodeTableWord 8 0x1F = none := by decide

/-! ### One small step per operation; the expected values are the spec's examples -/

/-- R83. -/
theorem test_nop_is_nothing :
    exec .nop node = .next node := rfl

/-- R85, R131: `T_BIT = 4`, SEND 0x48. -/
theorem test_send_starts_the_frame :
    (after (exec (.send 0x48#8) node)).map (fun s => (s.txHold, s.isTransmitting, s.txLevel, s.timer)) =
      some (0x48#8, true, false, 3) := by decide

/-- V-SEQ-3: a command at a tick with `ctl != POLL` is lost. -/
theorem test_send_is_lost_in_a_decode :
    exec (.send 0x0F#8) { node with ctl := .rxGuard } = .next { node with ctl := .rxGuard } := rfl

/-- V-CMD-4. -/
theorem test_ber_reset_clears :
    (after (exec .berReset { node with totalBitsCompared := 24, bitErrors := 2 })).map
      (fun s => (s.totalBitsCompared, s.bitErrors, berDefined s)) = some (0, 0, false) := by decide

/-- V-CMD-6. -/
theorem test_reserved_is_refused_at_poll :
    exec .cmdReserved node = .refused .reservedCommand := rfl

/-- V-CMD-7. -/
theorem test_reserved_is_ignored_elsewhere :
    runs (exec .cmdReserved { node with ctl := .txSeg }) = true := by decide

/-- S2 and R62: the levels of 0x80 are 0,0,0,0,0,0,0,0,1,1, here two ticks each. -/
theorem test_frame_puts_its_levels_on_the_channel :
    (after (exec (.frame 0x80#8) { node with inputs := [], cfg := { node.cfg with tBit := 2 } })).map
      (fun s => s.inputs.map (fun i => decide (511 < i.intensity))) =
      some [false, false, false, false, false, false, false, false, false, false, false, false, false, false, false, false,
        true, true, true, true] := by decide

/-- R63. -/
theorem test_idle_is_one_high_tick :
    (after (exec .idle { node with inputs := [] })).map (fun s => s.inputs) = some [light 800] := by decide

/-- R82, example: `previous_level = 1`, intensity 800. -/
theorem test_poll_reads_high :
    (after (exec .poll { node with previousLevel := true })).map (fun s => (s.ctl, s.previousLevel, s.events)) =
      some (.poll, true, []) := by decide

/-- V-SEQ-2. -/
theorem test_poll_send_beats_the_edge :
    (after (exec .poll { node with previousLevel := true, inputs := [{ cmd := 0x10F#10, intensity := 200 }] })).map
      (fun s => (s.ctl, s.currentLevel, s.events)) = some (.txSeg, false, [.txStart 0x0F#8]) := by decide

/-- R86, example: elapsed 20 is not longer than T_IDLE = 20. -/
theorem test_tail_at_the_threshold :
    (after (exec .tail { node with cfg := { node.cfg with policy := .idleTimeout }, msgBuf := [0x4F#8, 0x4B#8], lastAppendTime := 82, now := 102 })).map (fun s => s.events) = some [] := by decide

/-- P2: elapsed 21 completes. -/
theorem test_tail_past_the_threshold :
    (after (exec .tail { node with cfg := { node.cfg with policy := .idleTimeout }, msgBuf := [0x4F#8, 0x4B#8], lastAppendTime := 82, now := 103 })).map
      (fun s => (s.msgBuf, s.events)) = some ([], [.msg [0x4F#8, 0x4B#8] .idle, .clear]) := by decide

/-- V-SEQ-4. -/
theorem test_wait :
    exec .wait { node with ctl := .rxGuard, timer := 1 } = .next { node with ctl := .rxGuard, timer := 0 } := rfl

/-- V-SAM-1, V-SAM-2. -/
theorem test_sample_is_strict :
    (after (exec .sample { node with inputs := [light 511] })).map (fun s => s.wires.level) = some false ∧
    (after (exec .sample { node with inputs := [light 512] })).map (fun s => s.wires.level) = some true := by decide

/-- V-EDG-4 with R111's example. -/
theorem test_edge_falling :
    (after (exec .edge { node with previousLevel := true, inputs := [light 200] })).map
      (fun s => (s.events, s.ctl, s.timer)) = some ([.start], .rxGuard, 1) := by decide

/-- V-EDG-2. -/
theorem test_edge_rising :
    (after (exec .edge node)).map (fun s => (s.events, s.previousLevel)) = some ([], true) := by decide

/-- R111 with `GUARD_EN = 0`, `T_BIT = 5`: bit 0 due 7 ticks later. -/
theorem test_dec_start :
    (after (exec .decStart { node with cfg := { node.cfg with guardEn := false, tBit := 5 } })).map
      (fun s => (s.ctl, s.timer)) = some (.rxData, 6) := by decide

/-- P4, tick 8. -/
theorem test_dec_guard_aborts :
    (after (exec .decGuard { node with ctl := .rxGuard, previousLevel := true })).map
      (fun s => (s.events, s.ctl, s.previousLevel)) = some ([.abort], .poll, false) := by decide

/-- R112. -/
theorem test_dec_guard_passes :
    (after (exec .decGuard { node with ctl := .rxGuard, inputs := [light 200] })).map
      (fun s => (s.events, s.ctl, s.timer)) = some ([], .rxData, 3) := by decide

/-- R114: bit 3 of 0x48 reads 1; the other bits are kept. -/
theorem test_dec_sample :
    (after (exec .decSample { node with ctl := .rxData, rxIdx := 3, rxShift := 0x01#8 })).map
      (fun s => (s.rxShift, s.rxIdx, s.events)) = some (0x09#8, 4, [.sample 3 true]) := by decide

/-- R114: after bit 7 the decoder waits out the bit period. -/
theorem test_dec_sample_last :
    (after (exec .decSample { node with ctl := .rxData, rxIdx := 7, rxShift := 0xC8#8, inputs := [light 200] })).map
      (fun s => (s.rxShift, s.rxIdx, s.ctl)) = some (0x48#8, 7, .rxTrail) := by decide

/-- S4, the event list of the tick of the terminator. -/
theorem test_dec_return :
    (after (exec .decReturn { node with ctl := .rxTrail, rxShift := 0x0A#8, msgBuf := [0x48#8, 0x69#8], now := 123 })).map
      (fun s => (s.events, s.msgBuf, s.lastAppendTime)) =
      some ([.unit 0x0A#8, .append 0x0A#8, .msg [0x48#8, 0x69#8, 0x0A#8] .term, .clear], [], 123) := by decide

/-- R131. -/
theorem test_frame_start :
    (after (exec .frameStart { node with wires := { Wires.rest with frameUnit := 0x48#8 } })).map
      (fun s => (s.txHold, s.txSeg, s.events)) = some (0x48#8, 0, [.txStart 0x48#8]) := by decide

/-- R132: segment 4 of 0x48 is data bit 3, high. -/
theorem test_seg_advance :
    (after (exec .segAdvance { node with ctl := .txSeg, txHold := 0x48#8, txSeg := 3 })).map
      (fun s => (s.txSeg, s.txLevel, s.timer)) = some (4, true, 3) := by decide

/-- R61: the stop segment is high. -/
theorem test_seg_advance_to_stop :
    (after (exec .segAdvance { node with ctl := .txSeg, txHold := 0x00#8, txSeg := 8 })).map
      (fun s => (s.txSeg, s.txLevel)) = some (9, true) := by decide

/-- P3, node R, tick 122. -/
theorem test_frame_end_relays :
    (after (exec .frameEnd { node with ctl := .txSeg, isTransmitting := true, txSeg := 9, burstKind := .relay, msgBuf := [0x41#8, 0x0A#8] })).map
      (fun s => (s.events, s.relayIdx, s.isTransmitting)) = some ([.txDone, .txStart 0x0A#8], 1, true) := by decide

/-- P3, node R, tick 162. -/
theorem test_frame_end_clears :
    (after (exec .frameEnd { node with ctl := .txSeg, isTransmitting := true, txSeg := 9, burstKind := .relay, msgBuf := [0x41#8, 0x0A#8], relayIdx := 1 })).map
      (fun s => (s.events, s.msgBuf, s.ctl)) = some ([.txDone, .clear], [], .poll) := by decide

/-- R134, example. -/
theorem test_burst_end_settles :
    (after (exec .burstEnd { node with cfg := { node.cfg with tSettle := 3 } })).map (fun s => (s.ctl, s.timer)) =
      some (.settle, 2) := by decide

/-- V-ARB-4, tick 89. -/
theorem test_settle_end :
    (after (exec .settleEnd { node with ctl := .settle, burstKind := .relay, msgBuf := [0x21#8] })).map
      (fun s => (s.ctl, s.events)) = some (.poll, [.clear]) := by decide

/-- V-ASM-1. -/
theorem test_deliver_drops_nul :
    (after (exec .deliver node)).map (fun s => (s.events, s.msgBuf)) = some ([.drop 0x00#8], []) := by decide

/-- V-ASM-2. -/
theorem test_deliver_keeps_nul_without_sentinel :
    (after (exec .deliver { node with cfg := { node.cfg with nulSentinel := false } })).map (fun s => s.msgBuf) =
      some [0x00#8] := by decide

/-- R157, example. -/
theorem test_append :
    (after (exec .append { node with msgBuf := [0x48#8], now := 82, wires := { Wires.rest with decData := 0x6A#8 } })).map
      (fun s => (s.msgBuf, s.lastAppendTime, s.events)) = some ([0x48#8, 0x6A#8], 82, [.append 0x6A#8]) := by decide

/-- R158 corner case (b). -/
theorem test_complete_term :
    (after (exec .completeTerm { node with msgBuf := [0x0A#8], wires := { Wires.rest with decData := 0x0A#8 } })).map
      (fun s => s.events) = some [.msg [0x0A#8] .term, .clear] := by decide

/-- R165. -/
theorem test_complete_idle_empty :
    (after (exec .completeIdle { node with now := 1000 })).map (fun s => s.events) = some [] := by decide

/-- P1, tick 123. -/
theorem test_complete_ber :
    (after (exec .complete { node with cfg := { node.cfg with action := .ber, ref := [0x48#8, 0x69#8, 0x0A#8] }, msgBuf := [0x48#8, 0x6A#8, 0x0A#8] })).map (fun s => s.events) =
      some [.msg [0x48#8, 0x6A#8, 0x0A#8] .term, .ber 24 2 24 2, .clear] := by decide

/-- R161. -/
theorem test_act_none :
    (after (exec .actNone { node with msgBuf := [0x4F#8] })).map (fun s => (s.msgBuf, s.events)) = some ([], [.clear]) := by decide

/-- R162, R181: the totals accumulate. -/
theorem test_act_ber_per_message :
    (after (exec .actBer { node with cfg := { node.cfg with action := .ber, ref := [0x48#8, 0x69#8, 0x0A#8] }, msgBuf := [0x48#8, 0x6A#8, 0x0A#8], totalBitsCompared := 24, bitErrors := 1 })).map
      (fun s => (s.totalBitsCompared, s.bitErrors)) = some (48, 3) := by decide

/-- R163, example. -/
theorem test_act_relay :
    (after (exec .actRelay { node with msgBuf := [0x41#8, 0x0A#8], relayIdx := 5 })).map
      (fun s => (s.relayIdx, s.burstKind, s.txHold)) = some (0, .relay, 0x41#8) := by decide

/-- R40, R165. -/
theorem test_act_relay_empty :
    exec .actRelay node = .fault .msgIndexOutOfRange := rfl

/-- R164, example. -/
theorem test_clear :
    (after (exec .clear { node with msgBuf := [0x48#8, 0x69#8, 0x0A#8] })).map msgLen = some 0 := by decide

/-- V-BER-3. -/
theorem test_compare_lost_unit :
    compareUnits [0x48#8, 0x69#8, 0x0A#8] [0x48#8, 0x0A#8] = (16, 4) := by decide

/-- S6. -/
theorem test_compare_source_example :
    (after (exec .compare { node with cfg := { node.cfg with action := .ber, ref := [0x48#8, 0x69#8, 0x0A#8] }, msgBuf := [0x48#8, 0x6A#8, 0x0A#8] })).map (fun s => (s.wires.cmpBits, s.wires.cmpErrs)) = some (24, 2) := by decide

/-- R181, example. -/
theorem test_accumulate :
    (after (exec .accumulate { node with totalBitsCompared := 24, bitErrors := 2, wires := { Wires.rest with cmpBits := 24 } })).map (fun s => s.events) = some [.ber 24 0 48 2] := by decide

/-- R183, example. -/
theorem test_ber_clear :
    (after (exec .berClear { node with totalBitsCompared := 48, bitErrors := 2 })).map
      (fun s => (s.totalBitsCompared, s.bitErrors)) = some (0, 0) := by decide

/-- R184, example: 2/24 = 1/12. -/
theorem test_ber_ratio :
    (after (exec .berRatio { node with totalBitsCompared := 24, bitErrors := 2 })).map (fun s => s.wires.ratio) =
      some (some (mkRat 1 12)) := by decide

/-- V-BER-13. -/
theorem test_ber_ratio_no_value :
    (after (exec .berRatio node)).map (fun s => s.wires.ratio) = some none := by decide

/-! ### The step and the choice of its operation -/

/-- R232: the first step after reset is a POLL at tick 0. -/
theorem test_first_step_polls : (after (step node)).map (fun s => (s.now, s.previousLevel, s.inputs)) = some (1, true, []) := by
  decide

/-- From reset with nothing listed the step answers next: the host asks nothing and the light is free. -/
theorem test_step_runs_from_reset : runs (step State.reset) = true := rfl

theorem test_step_refuses_an_illegal_configuration :
    step (nodeWith { node.cfg with tBit := 1 }) = .refused .illegalConfiguration := rfl

/-- Every row of the opcode table but the reserved command runs as the first instruction after reset. -/
theorem test_table_words_run_after_reset :
    ([(16, 0x000), (16, 0x148), (16, 0x200), (16, 0x290), (1, 1)] ++ (List.range 27).map (fun k => (8, k))).all
      (fun p => runs (step (State.reset.withFetchWord p.1 p.2))) = true := by decide

theorem test_reserved_table_word_is_refused :
    step (State.reset.withFetchWord 16 0x300) = .refused .reservedCommand := rfl

/-- Two nodes: the receiver sees the sender's low start segment one tick after it was written (R52, R257). -/
theorem test_lock_step_shows_the_start_segment :
    (lockStep [none, some 0] [{ node with ctl := .txSeg, txLevel := false }, { node with previousLevel := true }]).map
      (fun o => (after o).map (fun s => s.events)) = [some [], some [.start]] := by decide

/-! ### Witnesses: for each statement with hypotheses, states and operands that meet them, clause by clause -/

/-- A next state with a property, read off the outcome. -/
theorem exists_next {o : Host.Outcome State Fault Refusal} {P : State → Prop} [DecidablePred P]
    (h : (after o).any (fun t => decide (P t)) = true) : ∃ t, o = .next t ∧ P t := by
  cases o with
  | next t => exact ⟨t, rfl, by simpa [after] using h⟩
  | fault r => simp [after] at h
  | refused r => simp [after] at h

/-- A node whose host presents a command word at a POLL tick, the channel high. -/
def asked (w : CmdWord) : State := { node with inputs := [{ cmd := w, intensity := 800 }] }

/-- A node in the last tick before bit `i` is due, one unit in the buffer. -/
def decoding (c : Ctl) (i : Fin 8) (n : Nat) : State :=
  { node with ctl := c, rxIdx := i, inputs := [light n], msgBuf := [0x48#8] }

/-- A node in the last tick of segment `k` of a frame, two units in the buffer. -/
def sending (b : Byte) (k : Fin 10) (kind : BurstKind) : State :=
  { node with ctl := .txSeg, isTransmitting := true, txHold := b, txSeg := k, txLevel := segLevel b k.val,
              burstKind := kind, msgBuf := [0x41#8, 0x0A#8] }

/-- A node with a message pending for one tick more than T_IDLE. -/
def pending (a : Action) : State :=
  { node with cfg := { node.cfg with policy := .idleTimeout, action := a }, msgBuf := [0x4F#8], now := 21 }

theorem witness_DecodedWordIsInItsTableRow :
    decode (.cmd 0x1FF#10) = .ok (.send 0xFF#8) ∧ decode (.cmd 0x2FF#10) = .ok .berReset ∧
    decode (.frame 0x3FE#10) = .ok (.frame 0xFF#8) ∧ decode (.opId 26#5) = .ok .berRatio := ⟨rfl, rfl, rfl, rfl⟩

theorem witness_CommandWordSelectsByItsHighBits :
    (0x0FF#10).toNat < 0x100 ∧ 0x100 ≤ (0x100#10).toNat ∧ (0x1FF#10).toNat < 0x200 ∧ 0x200 ≤ (0x200#10).toNat ∧
    (0x2FF#10).toNat < 0x300 ∧ 0x300 ≤ (0x300#10).toNat := by decide

theorem witness_FrameWordHasTheTenSegmentLevels :
    segLevel 0x81#8 1 = (0x81#8).getLsbD 0 ∧ segLevel 0x81#8 8 = (0x81#8).getLsbD 7 := by decide

theorem witness_StepRunsTheSelectedOperation :
    ∀ s ∈ [node, { decoding .rxGuard 0 200 with timer := 1 }, decoding .rxGuard 0 200, decoding .rxData 7 800,
        decoding .rxTrail 7 800, sending 0x48#8 8 .host, sending 0x48#8 9 .host, { node with ctl := .settle }],
      s.cfg.legal = true ∧ inputLegal s = true ∧ runs (exec (select s) { s with events := [] }) = true := by decide

theorem witness_PollRunsTheDecodedCommandThenTheEdgeDetector :
    (asked 0x1FF#10).ctl = .poll ∧ decode (.cmd (cmdNow (asked 0x1FF#10))) = .ok (.send 0xFF#8) ∧
    decode (.cmd (cmdNow (asked 0x0FF#10))) = .ok .nop ∧ decode (.cmd (cmdNow (asked 0x2FF#10))) = .ok .berReset ∧
    decode (.cmd (cmdNow (asked 0x300#10))) = .ok .cmdReserved := ⟨rfl, rfl, rfl, rfl, rfl⟩

theorem witness_StepAtPollRunsTheDecodedCommand :
    (asked 0x200#10).cfg.legal = true ∧ inputLegal (asked 0x200#10) = true ∧ Instr.wellFormed .berReset = true ∧
    Instr.wellFormed (.send 0x48#8) = true ∧ decode (.cmd (cmdNow (asked 0x148#10))) = .ok (.send 0x48#8) :=
  ⟨by decide, by decide, rfl, rfl, rfl⟩

theorem witness_StepAnswersNextUnlessTheSpecRefuses :
    (∃ t, step (nodeWith { node.cfg with tBit := 2, intW := 10, threshold := 1023 }) = .next t ∧ t.now = 1) ∧
    (∃ t, step { node with inputs := [light 1023] } = .next t ∧ t.now = 1) :=
  ⟨exists_next (by decide), exists_next (by decide)⟩

theorem witness_StepNeverFaultsAndRefusesOnlyByTheSpec :
    step (nodeWith { node.cfg with tBit := 1 }) = .refused .illegalConfiguration ∧
    step { node with inputs := [light 1024] } = .refused .intensityOutOfRange ∧
    step (asked 0x3FF#10) = .refused .reservedCommand := ⟨rfl, rfl, rfl⟩

theorem witness_NowCountsTheTicksSinceReset :
    ∃ t, Sys2Proof.core.run 2 { State.resetWith node.cfg with inputs := [light 800, light 800] } = .next t ∧ t.now = 2 :=
  exists_next (by decide)

theorem witness_NoOperationWritesTheConfiguration :
    (∃ t, exec .append node = .next t ∧ t.msgBuf ≠ node.msgBuf) ∧ (∃ t, step node = .next t ∧ t.now = 1) :=
  ⟨exists_next (by decide), exists_next (by decide)⟩

theorem witness_ControlMovesOnlyAsTheTableSays :
    (∃ t, step (asked 0x148#10) = .next t ∧ t.ctl = .txSeg) ∧
    (∃ t, step (pending .relay) = .next t ∧ t.ctl = .txSeg) ∧
    (∃ t, step { node with previousLevel := true, inputs := [light 200] } = .next t ∧ t.ctl = .rxGuard) ∧
    (∃ t, step { decoding .rxGuard 0 200 with timer := 1 } = .next t ∧ t.ctl = .rxGuard) ∧
    (∃ t, step (decoding .rxGuard 0 800) = .next t ∧ t.ctl = .poll) ∧
    (∃ t, step (decoding .rxData 6 800) = .next t ∧ t.ctl = .rxData) ∧
    (∃ t, step (decoding .rxData 7 800) = .next t ∧ t.ctl = .rxTrail) ∧
    (∃ t, step (decoding .rxTrail 7 800) = .next t ∧ t.ctl = .poll) ∧
    (∃ t, step { node with previousLevel := true, inputs := [light 200], cfg := { node.cfg with guardEn := false } } =
      .next t ∧ t.ctl = .rxData) ∧
    (∃ t, step (decoding .rxGuard 0 511) = .next t ∧ t.ctl = .rxData) ∧
    (∃ t, step { pending .relay with ctl := .rxGuard, inputs := [light 512] } = .next t ∧ t.ctl = .txSeg) ∧
    (∃ t, step { pending .relay with ctl := .rxTrail } = .next t ∧ t.ctl = .txSeg) ∧
    (∃ t, step (sending 0x48#8 8 .host) = .next t ∧ t.ctl = .txSeg) ∧
    (∃ t, step (sending 0x48#8 9 .relay) = .next t ∧ t.ctl = .txSeg) ∧
    (∃ t, step { pending .relay with ctl := .txSeg, txSeg := 9 } = .next t ∧ t.ctl = .txSeg) ∧
    (∃ t, step { sending 0x48#8 9 .host with cfg := { node.cfg with tSettle := 1 } } = .next t ∧ t.ctl = .settle) ∧
    (∃ t, step (sending 0x48#8 9 .host) = .next t ∧ t.ctl = .poll) ∧
    (∃ t, step { node with ctl := .settle } = .next t ∧ t.ctl = .poll) ∧
    (∃ t, step { pending .relay with ctl := .settle, burstKind := .host } = .next t ∧ t.ctl = .txSeg) :=
  ⟨exists_next (by decide), exists_next (by decide), exists_next (by decide), exists_next (by decide),
    exists_next (by decide), exists_next (by decide), exists_next (by decide), exists_next (by decide),
    exists_next (by decide), exists_next (by decide), exists_next (by decide), exists_next (by decide),
    exists_next (by decide), exists_next (by decide), exists_next (by decide), exists_next (by decide),
    exists_next (by decide), exists_next (by decide), exists_next (by decide)⟩

theorem witness_CommandIsNotLookedAtOutsidePoll :
    (decoding .rxData 0 800).ctl ≠ .poll ∧ (decoding .rxData 0 800).inputs = light 800 :: [] := by decide

theorem witness_WaitingAndSendingStepsIgnoreTheInputs :
    (sending 0x48#8 0 .host).ctl = .txSeg ∧ (sending 0x48#8 0 .host).inputs = light 800 :: [] ∧
    (light 0).intensity < 2 ^ node.cfg.intW ∧ (light 1023).intensity < 2 ^ node.cfg.intW := by decide

theorem witness_WaitingCountsTheTimerDown :
    let s := { decoding .rxData 0 800 with timer := 3 }
    s.cfg.legal = true ∧ legalInputs s ∧ s.ctl ≠ .poll ∧ 1 ≤ 3 ∧ 3 ≤ s.timer := by
  unfold legalInputs; decide

theorem nodeInv_node : NodeInv node := by
  constructor <;> first | decide | exact fun _ => rfl

theorem nodeInv_sending : NodeInv (sending 0x48#8 4 .relay) := by
  constructor <;> first | decide | exact fun _ => rfl

theorem nodeInv_guard : NodeInv (decoding .rxGuard 0 800) := by
  constructor <;> first | decide | exact fun _ => rfl

theorem nodeInv_trail : NodeInv (decoding .rxTrail 7 800) := by
  constructor <;> first | decide | exact fun _ => rfl

theorem witness_EveryStepKeepsTheNodeInvariant :
    NodeInv node ∧ ∃ t, step node = .next t ∧ t.now = 1 := ⟨nodeInv_node, exists_next (by decide)⟩

theorem witness_NothingIsReceivedWhileTransmitting :
    NodeInv (sending 0x48#8 4 .relay) ∧ (sending 0x48#8 4 .relay).isTransmitting = true ∧
    ∃ t, step (sending 0x48#8 4 .relay) = .next t ∧ t.txSeg = 5 := ⟨nodeInv_sending, rfl, exists_next (by decide)⟩

theorem witness_DecodeLeavesThePreviousLevelLow :
    (NodeInv (decoding .rxGuard 0 800) ∧ inDecode (decoding .rxGuard 0 800) ∧
      ∃ t, step (decoding .rxGuard 0 800) = .next t ∧ t.ctl = .poll) ∧
    (NodeInv (decoding .rxTrail 7 800) ∧ inDecode (decoding .rxTrail 7 800) ∧
      ∃ t, step (decoding .rxTrail 7 800) = .next t ∧ t.ctl = .poll) ∧
    (node.previousLevel = false ∧ node.ctl = .poll ∧ ∃ t, step node = .next t ∧ t.previousLevel = true) :=
  ⟨⟨nodeInv_guard, .inl rfl, exists_next (by decide)⟩, ⟨nodeInv_trail, .inr (.inr rfl), exists_next (by decide)⟩,
    rfl, rfl, exists_next (by decide)⟩

theorem witness_EmittedLevelChangesOnlyInFrames :
    (∃ t, step (asked 0x148#10) = .next t ∧ t.txLevel ≠ (asked 0x148#10).txLevel) ∧
    (∃ t, step (sending 0x48#8 8 .host) = .next t ∧ t.txLevel ≠ (sending 0x48#8 8 .host).txLevel) :=
  ⟨exists_next (by decide), exists_next (by decide)⟩

theorem witness_MessageBufferIsOnlyAppendedToOrCleared :
    (∃ t, exec .append node = .next t ∧ t.msgBuf = [0x00#8]) ∧
    (∃ t, exec .clear (decoding .rxTrail 7 800) = .next t ∧ t.msgBuf = []) :=
  ⟨exists_next (by decide), exists_next (by decide)⟩

theorem witness_AtMostOneMessageCompletesInAStep :
    ∃ t, step (pending .none) = .next t ∧ t.events.countP isMsg = 1 := exists_next (by decide)

theorem witness_BerTotalsFallOnlyByAClear :
    (∃ t, step { asked 0x200#10 with totalBitsCompared := 8, bitErrors := 1 } = .next t ∧ t.bitErrors < 1) ∧
    (∃ t, step { pending .ber with cfg := { (pending .ber).cfg with berPerMessage := true }, totalBitsCompared := 8 } =
      .next t ∧ t.totalBitsCompared < 8) :=
  ⟨exists_next (by decide), exists_next (by decide)⟩

theorem witness_NopAndCommandsAtOtherTicksWriteNothing : (decoding .rxGuard 0 200).ctl ≠ .poll := by decide

theorem witness_BerClearAndBerResetZeroBothTotals :
    node.ctl = .poll ∧ (nodeWith { node.cfg with berPerMessage := true }).cfg.berPerMessage = true := ⟨rfl, rfl⟩

theorem witness_SendAndFrameStartBeginAFrame : node.ctl = .poll := rfl

theorem witness_ReservedCommandIsRefusedAtPollOnly :
    (asked 0x300#10).ctl = .poll ∧ (asked 0x300#10).cfg.legal = true ∧ inputLegal (asked 0x300#10) = true ∧
    0x300 ≤ (cmdNow (asked 0x300#10)).toNat ∧ { asked 0x3FF#10 with ctl := .settle }.ctl ≠ .poll ∧
    0x300 ≤ (0x3FF#10).toNat := by decide

theorem witness_WireSymbolsPutTheirLevelsOnTheChannel :
    0 < node.inputs.length ∧ 9 < 10 ∧ node.cfg.tBit - 1 < node.cfg.tBit := by decide

theorem witness_SampleComparesStrictlyWithTheThreshold :
    node.cfg.threshold < intensityNow { node with inputs := [light 512] } ∧
    intensityNow { node with inputs := [light 511] } ≤ node.cfg.threshold := by decide

theorem witness_InputsOfATickAreTheListedOnes :
    node.inputs = light 800 :: [] ∧ State.reset.inputs = [] := ⟨rfl, rfl⟩

theorem witness_EdgeStartsADecodeOrRunsTheTail :
    let s := { node with previousLevel := true, inputs := [light 511] }
    (s.previousLevel = true ∧ intensityNow s ≤ s.cfg.threshold) ∧
    (node.previousLevel = false ∧ node.cfg.threshold < intensityNow node) := by decide

theorem witness_StartBitEventIsAFallingEdge :
    let s := { node with previousLevel := true, inputs := [light 511] }
    (s.events = [] ∧ ∃ t, exec .edge s = .next t ∧ Event.start ∈ t.events) ∧
    (node.events = [] ∧ ∃ t, exec .edge node = .next t ∧ Event.start ∉ t.events) :=
  ⟨⟨rfl, exists_next (by decide)⟩, rfl, exists_next (by decide)⟩

theorem witness_DecodeStartSchedulesTheGuardOrTheFirstSample :
    node.cfg.guardEn = true ∧ (nodeWith { node.cfg with guardEn := false }).cfg.guardEn = false ∧
    2 ≤ (nodeWith { node.cfg with tBit := 2 }).cfg.tBit ∧ (nodeWith { node.cfg with tBit := 3 }).cfg.tBit ≤ 3 := by decide

theorem witness_GuardAbortsOnHighAndGoesOnOnLow :
    let h := decoding .rxGuard 0 512
    let l := decoding .rxGuard 0 511
    h.cfg.threshold < intensityNow h ∧ intensityNow l ≤ l.cfg.threshold := by decide

theorem witness_DataSampleWritesOneBitOfTheUnit :
    (decoding .rxData 6 800).rxIdx.val < 7 ∧ (decoding .rxData 7 800).rxIdx.val = 7 := by decide

theorem witness_SegmentAdvancePutsTheNextLevelOnTheChannel :
    (sending 0x48#8 0 .host).txSeg.val < 8 ∧ (sending 0x48#8 7 .host).txSeg.val < 8 ∧
    (sending 0x48#8 8 .host).txSeg.val = 8 ∧ (sending 0x48#8 8 .host).txSeg.val < 9 := by decide

theorem witness_WaitDecrementsTheTimer : 0 < { decoding .rxGuard 0 200 with timer := 1 }.timer := by decide

theorem witness_FrameEndStartsTheNextUnitOrEndsTheBurst :
    let s := sending 0x41#8 9 .relay
    (s.burstKind = .relay ∧ msgRead s (s.relayIdx + 1) = some 0x0A#8) ∧ (sending 0x41#8 9 .host).burstKind = .host ∧
    msgRead { s with relayIdx := 1 } 2 = none := by decide

theorem witness_BurstEndSettlesThenClearsOrRunsTheTail :
    0 < (nodeWith { node.cfg with tSettle := 1 }).cfg.tSettle ∧ node.cfg.tSettle = 0 ∧ node.burstKind = .host ∧
    (sending 0x41#8 9 .relay).cfg.tSettle = 0 ∧ (sending 0x41#8 9 .relay).burstKind = .relay := by decide

theorem witness_DeliverIgnoresAbortAndSentinel :
    let aborted := { node with wires := { Wires.rest with decAbort := true } }
    let unit := { node with wires := { Wires.rest with decData := 0x01#8 } }
    aborted.wires.decAbort = true ∧
    (node.wires.decAbort = false ∧ node.cfg.nulSentinel = true ∧ node.wires.decData = 0x00#8) ∧
    (unit.wires.decAbort = false ∧ unit.wires.decData ≠ 0x00#8) ∧
    (nodeWith { node.cfg with nulSentinel := false }).cfg.nulSentinel = false := by decide

theorem witness_AppendAddsAtTheEndAndRecordsTheTime :
    (pending .none).cfg.policy = .idleTimeout ∧ node.cfg.policy = .terminator := ⟨rfl, rfl⟩

theorem witness_TerminatorUnitCompletesTheMessage :
    let s := { node with msgBuf := [0x0A#8], wires := { Wires.rest with decData := 0x0A#8 } }
    node.wires.decData ≠ node.cfg.terminator ∧ s.wires.decData = s.cfg.terminator ∧ s.msgBuf ≠ [] := by decide

theorem witness_TailCompletesAnIdleMessageStrictly :
    let s := pending .none
    let due := { s with now := 20 }
    node.cfg.policy = .terminator ∧ s.cfg.policy = .idleTimeout ∧ due.now - due.lastAppendTime ≤ due.cfg.tIdle ∧
    node.msgBuf = [] ∧ s.msgBuf ≠ [] ∧ s.cfg.tIdle < s.now - s.lastAppendTime := by decide

theorem witness_CompletionReportsTheMessageAndActs :
    (pending .none).cfg.action = .none ∧ (pending .ber).cfg.action = .ber ∧ (pending .relay).cfg.action = .relay ∧
    (pending .relay).msgBuf ≠ [] := by decide

theorem witness_RelayStartsWithTheFirstUnit : msgRead (pending .relay) 0 = some 0x4F#8 := rfl

theorem witness_StopsOutsideTheSelectingSituations :
    let s := { nodeWith { node.cfg with action := .relay } with wires := { Wires.rest with decData := 0x0A#8 } }
    node.timer = 0 ∧ (sending 0x48#8 9 .host).txSeg.val = 9 ∧ s.msgBuf = [] ∧ s.cfg.action = .relay ∧
    s.wires.decData = s.cfg.terminator := by decide

theorem witness_BerActionAccountsTheMessageAndClearsIt :
    let s := { pending .ber with cfg := { (pending .ber).cfg with ref := [0x4E#8, 0x00#8] } }
    8 = 8 * min s.cfg.ref.length s.msgBuf.length ∧ 1 = differingBits s.cfg.ref s.msgBuf ∧
    8 = (if s.cfg.berPerMessage then 0 else s.totalBitsCompared) + 8 ∧
    1 = (if s.cfg.berPerMessage then 0 else s.bitErrors) + 1 := by decide

theorem witness_BerRatioIsExactOrNoValue :
    let s := { node with totalBitsCompared := 24, bitErrors := 24 }
    node.totalBitsCompared = 0 ∧ s.totalBitsCompared ≠ 0 ∧ s.bitErrors ≤ s.totalBitsCompared := by decide

theorem witness_SentFrameHoldsEachSegmentForTheBitPeriod :
    let s := asked 0x148#10
    s.cfg.legal = true ∧ legalInputs s ∧ s.ctl = .poll ∧ decode (.cmd (cmdNow s)) = .ok (.send 0x48#8) :=
  ⟨by decide, by unfold legalInputs; decide, rfl, rfl⟩

theorem witness_RelayFramesFollowWithoutAGap :
    let s := { sending 0x41#8 0 .relay with timer := 3 }
    s.cfg.legal = true ∧ legalInputs s ∧ s.ctl = .txSeg ∧ s.txSeg = 0 ∧ s.timer = s.cfg.tBit - 1 ∧
    s.burstKind = .relay ∧ msgRead s (s.relayIdx + 1) = some 0x0A#8 := by
  unfold legalInputs; decide

theorem witness_ReceivedFrameDecodesToItsUnit :
    let s := { node with previousLevel := true, inputs := [] }
    s.cfg.legal = true ∧ lightSeparates s ∧ s.ctl = .poll ∧ s.isTransmitting = false ∧ s.previousLevel = true ∧
    s.inputs = [] := by
  unfold lightSeparates; decide

end Sys2Proof.Tests
end

/-! Proofs of the family 10_state: the outputs of R32 as conditions on the registers, the operation of a POLL tick, and
the two statements about the reset table (R35) and the outputs. -/

namespace Sys2Proof.Machine

/-! ### The outputs of R32 -/

@[simp] theorem cmdReady_eq_true_iff (s : State) : cmdReady s = true ↔ s.ctl = .poll :=
  decide_eq_true_iff

/-- The model tests for a nonzero total; the rule speaks of a total above 0. -/
@[simp] theorem berDefined_eq_true_iff (s : State) : berDefined s = true ↔ 0 < s.totalBitsCompared :=
  decide_eq_true_iff.trans Nat.pos_iff_ne_zero.symm

theorem msgLen_eq_length (s : State) : msgLen s = s.msgBuf.length := rfl

/-! ### The operation of a POLL tick -/

/-- R81: at a POLL tick the operation is POLL, whatever the timer holds. -/
theorem select_of_ctl_poll {s : State} (hctl : s.ctl = .poll) : select s = .poll := by
  rcases select_cases s with ⟨-, hsel⟩ | ⟨hne, -, -⟩ | ⟨-, hother⟩
  · exact hsel
  · exact absurd hctl hne
  · simp [hctl] at hother

/-! ### The obligations -/

/-- Settles O26: each register is a field of the reset record, and the first operation is that of a POLL tick. -/
theorem resetLeavesTheValuesOfTheTable : Obligations.ResetLeavesTheValuesOfTheTable := by
  intro c
  have hctl : (State.resetWith c).ctl = .poll := rfl
  exact ⟨rfl, rfl, rfl, rfl, hctl, rfl, rfl, rfl, rfl, rfl, rfl, rfl, rfl, rfl, rfl, rfl, rfl, select_of_ctl_poll hctl⟩

/-- Settles O28, one lemma for each computed output. -/
theorem outputsAreFunctionsOfTheRegisters : Obligations.OutputsAreFunctionsOfTheRegisters := fun s =>
  ⟨cmdReady_eq_true_iff s, berDefined_eq_true_iff s, msgLen_eq_length s⟩

end Sys2Proof.Machine

/-! Proofs of the family 20_memory: no operation and no step writes a parameter (R56). -/

namespace Sys2Proof.Machine

/-! ### The shared operations keep the configuration

The state's own lemmas say it of the operations that are one record; these are the operations that branch, each after
the operations it runs. -/

@[simp] theorem opActNone_cfg (s : State) : (opActNone s).cfg = s.cfg := opClear_cfg s

@[simp] theorem opActBer_cfg (s : State) : (opActBer s).cfg = s.cfg := by simp [opActBer_eq]

@[simp] theorem opActRelay_cfg (s : State) : (opActRelay s).cfg = s.cfg := by
  unfold opActRelay
  cases msgRead s 0 <;> simp

@[simp] theorem opComplete_cfg (s : State) : (opComplete s).cfg = s.cfg := by
  rcases opComplete_cases s with ⟨-, h⟩ | ⟨-, h⟩ | ⟨-, h⟩ <;> simp [h]

@[simp] theorem completeWith_cfg (c : Cause) (s : State) : (completeWith c s).cfg = s.cfg := opComplete_cfg _

@[simp] theorem opCompleteTerm_cfg (s : State) : (opCompleteTerm s).cfg = s.cfg := by
  rcases opCompleteTerm_cases s with ⟨-, h⟩ | ⟨-, h⟩ <;> simp [h]

@[simp] theorem opCompleteIdle_cfg (s : State) : (opCompleteIdle s).cfg = s.cfg := by
  rcases opCompleteIdle_cases s with ⟨-, h⟩ | ⟨-, h⟩ <;> simp [h]

@[simp] theorem opAppend_cfg (s : State) : (opAppend s).cfg = s.cfg := by
  rcases opAppend_cases s with ⟨-, h⟩ | ⟨-, h⟩ <;> simp [h]

@[simp] theorem opDeliver_cfg (s : State) : (opDeliver s).cfg = s.cfg := by
  rcases opDeliver_cases s with ⟨-, h⟩ | ⟨-, -, h⟩ | ⟨-, -, h⟩ <;> simp [h]

@[simp] theorem deliverWith_cfg (abort : Bool) (u : Byte) (s : State) : (deliverWith abort u s).cfg = s.cfg :=
  opDeliver_cfg _

@[simp] theorem opTail_cfg (s : State) : (opTail s).cfg = s.cfg := (opTail_completes s).1.cfg

@[simp] theorem afterBurst_cfg (s : State) : (afterBurst s).cfg = s.cfg := by
  rcases afterBurst_cases s with ⟨-, h⟩ | ⟨-, h⟩ <;> simp [h]

@[simp] theorem opSettleEnd_cfg (s : State) : (opSettleEnd s).cfg = s.cfg := afterBurst_cfg s

@[simp] theorem opBurstEnd_cfg (s : State) : (opBurstEnd s).cfg = s.cfg := by
  rcases opBurstEnd_cases s with ⟨-, h⟩ | ⟨-, h⟩ <;> simp [h]

@[simp] theorem opFrameEnd_cfg (s : State) : (opFrameEnd s).cfg = s.cfg := by
  rcases opFrameEnd_cases s with ⟨u, -, -, h⟩ | ⟨-, h⟩ <;> simp [h]

@[simp] theorem opDecStart_cfg (s : State) : (opDecStart s).cfg = s.cfg := by
  unfold opDecStart
  cases s.cfg.guardEn <;> rfl

@[simp] theorem opDecGuard_cfg (s : State) : (opDecGuard s).cfg = s.cfg := by
  rcases opDecGuard_cases s with ⟨-, h⟩ | ⟨-, h⟩ <;> simp [h]

@[simp] theorem opDecSample_cfg (s : State) : (opDecSample s).cfg = s.cfg := by
  unfold opDecSample
  by_cases h : s.rxIdx.val < 7 <;> simp [h]

@[simp] theorem opDecReturn_cfg (s : State) : (opDecReturn s).cfg = s.cfg := by simp [opDecReturn]

@[simp] theorem opEdge_cfg (s : State) : (opEdge s).cfg = s.cfg := by
  rcases opEdge_cases s with ⟨-, -, h⟩ | ⟨-, h⟩ <;> simp [h]

@[simp] theorem opSend_cfg (b : Byte) (s : State) : (opSend b s).cfg = s.cfg := startFrame_cfg b _

@[simp] theorem edgeOrTail_cfg (s : State) : (edgeOrTail s).cfg = s.cfg := by
  unfold edgeOrTail
  cases s.isTransmitting <;> simp

/-! ### The outcome of an operation -/

/-- The outcome `o` of an operation run in `s` has, where it is a next state, the configuration of `s` (R56). -/
def KeepsCfg (s : State) (o : Host.Outcome State Fault Refusal) : Prop := ∀ t, o = .next t → t.cfg = s.cfg

@[simp] theorem keepsCfg_next_iff (s u : State) : KeepsCfg s (.next u) ↔ u.cfg = s.cfg := by simp [KeepsCfg]

@[simp] theorem keepsCfg_fault (s : State) (f : Fault) : KeepsCfg s (.fault f) := by simp [KeepsCfg]

@[simp] theorem keepsCfg_refused (s : State) (r : Refusal) : KeepsCfg s (.refused r) := by simp [KeepsCfg]

/-- A guarded operation keeps the configuration when both of its outcomes do. -/
theorem KeepsCfg.ite {s : State} {p : Prop} [Decidable p] {o o' : Host.Outcome State Fault Refusal}
    (h : KeepsCfg s o) (h' : KeepsCfg s o') : KeepsCfg s (if p then o else o') := by
  split
  · exact h
  · exact h'

theorem execPoll_keepsCfg (s : State) : KeepsCfg s (execPoll s) := by
  rcases execPoll_cases s with ⟨-, h⟩ | ⟨-, h⟩ | ⟨-, h⟩ | ⟨b, -, h⟩ <;> simp [h]

/-- R56 for the dispatch: an operation that always answers next keeps the configuration by its own lemma, a guarded one
in both outcomes of its guard. -/
theorem exec_keepsCfg (i : Instr) (s : State) : KeepsCfg s (exec i s) := by
  cases i with
  | nop => exact (keepsCfg_next_iff s s).mpr rfl
  | poll => exact execPoll_keepsCfg s
  | send | berReset | cmdReserved | wait | segAdvance | completeTerm | complete | actRelay =>
    exact .ite (by simp) (by simp)
  | frame | idle => simp [exec, execFrame, execIdle]
  | tail | sample | edge => simp [exec, execTail, execSample, execEdge]
  | decStart | decGuard | decSample | decReturn =>
    simp [exec, execDecStart, execDecGuard, execDecSample, execDecReturn]
  | frameStart | frameEnd | burstEnd | settleEnd =>
    simp [exec, execFrameStart, execFrameEnd, execBurstEnd, execSettleEnd]
  | deliver | append | completeIdle | actNone | actBer | clear =>
    simp [exec, execDeliver, execAppend, execCompleteIdle, execActNone, execActBer, execClear]
  | compare | accumulate | berClear | berRatio =>
    simp [exec, execCompare, execAccumulate, execBerClear, execBerRatio]

/-- R56 for a tick: what frames the selected operation, `beginTick` and `endTick`, writes no parameter either. -/
theorem step_keepsCfg (s : State) : KeepsCfg s (step s) := by
  intro t h
  obtain ⟨-, -, u, hu, rfl⟩ := step_eq_next h
  calc (endTick u).cfg = u.cfg := endTick_cfg u
    _ = (beginTick s).cfg := exec_keepsCfg (select s) (beginTick s) u hu
    _ = s.cfg := beginTick_cfg s

/-! ### The obligation -/

/-- Settles O13, operation by operation; a step runs one operation between `beginTick` and `endTick`. -/
theorem noOperationWritesTheConfiguration : Obligations.NoOperationWritesTheConfiguration :=
  ⟨exec_keepsCfg, step_keepsCfg⟩

end Sys2Proof.Machine

/-! Proofs of the family 30_encoding: the levels and the word of a frame (R61, R62), and the reserved command code (R67),
with the frame rule that what runs outside POLL does not look at the command word. -/

namespace Sys2Proof.Machine

/-! ### The levels of a frame -/

@[simp] theorem segLevel_zero (b : Byte) : segLevel b 0 = false := rfl

theorem segLevel_of_data (b : Byte) {k : Nat} (h1 : 1 ≤ k) (h8 : k ≤ 8) : segLevel b k = b.getLsbD (k - 1) := by
  have h0 : k ≠ 0 := by omega
  simp [segLevel, h0, h8]

@[simp] theorem segLevel_nine (b : Byte) : segLevel b 9 = true := rfl

/-- R61: the stop bit stands above the unit, the start bit below it. -/
theorem frameWord_toNat (b : Byte) : (frameWord b).toNat = 0x200 + 2 * b.toNat := by
  have hstop : (1#1 ++ b).toNat = 0x100 + b.toNat :=
    (BitVec.toNat_append 1#1 b).trans (Nat.shiftLeft_add_eq_or_of_lt b.isLt 1).symm
  calc (frameWord b).toNat = (1#1 ++ b).toNat <<< 1 ||| 0 := BitVec.toNat_append (1#1 ++ b) 0#1
    _ = 0x200 + 2 * b.toNat := by rw [hstop, Nat.or_zero, Nat.shiftLeft_eq]; omega

/-- R61, R62: bit `k` of the word is the level of segment `k`. -/
theorem frameWord_getLsbD (b : Byte) {k : Nat} (hk : k < 10) : (frameWord b).getLsbD k = segLevel b k := by
  have hsplit : k = 0 ∨ (1 ≤ k ∧ k ≤ 8) ∨ k = 9 := by omega
  change (1#1 ++ b ++ 0#1).getLsbD k = segLevel b k
  rw [BitVec.getLsbD_append, BitVec.getLsbD_append]
  rcases hsplit with rfl | ⟨h1, h8⟩ | rfl
  · rfl
  · have h0 : k ≠ 0 := by omega
    have hdata : k - 1 < 8 := by omega
    simp [segLevel_of_data b h1 h8, h0, hdata]
  · rfl

/-! ### The reserved command code -/

/-- R65: the command code is the word's two high bits. -/
theorem cmdOp_toNat (w : CmdWord) : (cmdOp w).toNat = w.toNat / 256 := by
  have hw := w.isLt
  simp only [cmdOp, BitVec.extractLsb'_toNat, Nat.shiftRight_eq_div_pow]
  omega

/-- R66: from 0x300 on the command code is 3. -/
theorem decodeCommand_eq_reserved {w : CmdWord} (hw : 0x300 ≤ w.toNat) : decodeCommand w = .reserved := by
  have hop : cmdOp w = 3#2 := by
    have hlt := w.isLt
    apply BitVec.eq_of_toNat_eq
    rw [cmdOp_toNat, BitVec.toNat_ofNat]
    omega
  simp [decodeCommand, hop]

theorem exec_cmdReserved_of_poll {s : State} (hctl : s.ctl = .poll) :
    exec .cmdReserved s = .refused .reservedCommand :=
  if_pos hctl

theorem exec_cmdReserved_of_not_poll {s : State} (hctl : s.ctl ≠ .poll) : exec .cmdReserved s = .next s :=
  if_neg hctl

theorem execPoll_of_reserved {s : State} (hcmd : decodeCommand (cmdNow s) = .reserved) :
    execPoll s = .refused .reservedCommand := by
  simp [execPoll, hcmd]

/-- A step at POLL is the poll (R82) within the tick. -/
theorem step_of_poll {s : State} (hlegal : s.cfg.legal = true) (hin : inputLegal s = true) (hctl : s.ctl = .poll) :
    step s = mapNext endTick (execPoll (beginTick s)) := by
  simp [step, hlegal, hin, select_of_ctl_poll hctl, exec]

/-! ### One equation for each branch of an operation -/

theorem afterBurst_of_relay {s : State} (hkind : s.burstKind = .relay) :
    afterBurst s = opClear { s with ctl := .poll } := by
  unfold afterBurst
  rw [hkind]

theorem afterBurst_of_host {s : State} (hkind : s.burstKind = .host) :
    afterBurst s = opTail { s with ctl := .poll } := by
  unfold afterBurst
  rw [hkind]

theorem opFrameEnd_of_some {s : State} {u : Byte} (hnext : nextRelayUnit s = some u) :
    opFrameEnd s =
      startFrame u (emit .txDone { s with isTransmitting := false, relayIdx := s.relayIdx + 1 }) := by
  have hnext' : nextRelayUnit (emit .txDone { s with isTransmitting := false }) = some u := hnext
  simp only [opFrameEnd, hnext']
  rfl

theorem opFrameEnd_of_none {s : State} (hnext : nextRelayUnit s = none) :
    opFrameEnd s = opBurstEnd (emit .txDone { s with isTransmitting := false }) := by
  have hnext' : nextRelayUnit (emit .txDone { s with isTransmitting := false }) = none := hnext
  simp only [opFrameEnd, hnext']

theorem opDecGuard_of_high {s : State} (hlevel : level s.cfg (intensityNow s) = true) :
    opDecGuard s = opTail (deliverWith true 0#8 (endDecode (emit .abort (opSample s)))) :=
  if_pos hlevel

theorem opDecGuard_of_low {s : State} (hlevel : level s.cfg (intensityNow s) = false) :
    opDecGuard s = { opSample s with ctl := .rxData, timer := s.cfg.tBit - 1 } :=
  if_neg (Bool.eq_false_iff.mp hlevel)

theorem opDecSample_of_lt {s : State} (hidx : s.rxIdx.val < 7) :
    opDecSample s =
      { emit (.sample s.rxIdx (level s.cfg (intensityNow s)))
          { opSample s with rxShift := writeBit s.rxShift s.rxIdx (level s.cfg (intensityNow s))
                            timer := s.cfg.tBit - 1 } with rxIdx := s.rxIdx + 1 } :=
  if_pos hidx

theorem opDecSample_of_last {s : State} (hidx : ¬ s.rxIdx.val < 7) :
    opDecSample s =
      { emit (.sample s.rxIdx (level s.cfg (intensityNow s)))
          { opSample s with rxShift := writeBit s.rxShift s.rxIdx (level s.cfg (intensityNow s))
                            timer := s.cfg.tBit - 1 } with ctl := .rxTrail } :=
  if_neg hidx

/-! ### Operations and the inputs of the tick

An operation that reads no input commutes with a change of the input list; one that reads the intensity alone commutes
with a change that keeps it. -/

/-- The state with other inputs listed. -/
def withInputs (l : List Input) (s : State) : State := { s with inputs := l }

@[simp] theorem withInputs_cfg (l : List Input) (s : State) : (withInputs l s).cfg = s.cfg := rfl
@[simp] theorem withInputs_wires (l : List Input) (s : State) : (withInputs l s).wires = s.wires := rfl
@[simp] theorem withInputs_inputs (l : List Input) (s : State) : (withInputs l s).inputs = l := rfl
@[simp] theorem select_withInputs (l : List Input) (s : State) : select (withInputs l s) = select s := rfl
@[simp] theorem beginTick_withInputs (l : List Input) (s : State) :
    beginTick (withInputs l s) = withInputs l (beginTick s) := rfl

theorem opActBer_withInputs (l : List Input) (s : State) :
    opActBer (withInputs l s) = withInputs l (opActBer s) := by
  rw [opActBer_eq, opActBer_eq]
  rfl

theorem opActRelay_withInputs (l : List Input) (s : State) :
    opActRelay (withInputs l s) = withInputs l (opActRelay s) := by
  cases hbuf : s.msgBuf with
  | nil => simp [opActRelay, msgRead, withInputs, hbuf]
  | cons u us =>
    have hbuf' : (withInputs l s).msgBuf = u :: us := hbuf
    rw [opActRelay_of_cons hbuf, opActRelay_of_cons hbuf']
    rfl

theorem opComplete_withInputs (l : List Input) (s : State) :
    opComplete (withInputs l s) = withInputs l (opComplete s) := by
  unfold opComplete
  rw [withInputs_cfg]
  cases s.cfg.action
  · rfl
  · exact opActBer_withInputs l (emit (.msg s.msgBuf s.wires.cause) s)
  · exact opActRelay_withInputs l (emit (.msg s.msgBuf s.wires.cause) s)

theorem completeWith_withInputs (c : Cause) (l : List Input) (s : State) :
    completeWith c (withInputs l s) = withInputs l (completeWith c s) :=
  opComplete_withInputs l { s with wires := { s.wires with cause := c } }

theorem opCompleteTerm_withInputs (l : List Input) (s : State) :
    opCompleteTerm (withInputs l s) = withInputs l (opCompleteTerm s) := by
  unfold opCompleteTerm
  rw [withInputs_cfg, withInputs_wires]
  cases isTerminator s.cfg s.wires.decData
  · rfl
  · exact completeWith_withInputs .term l s

theorem opCompleteIdle_withInputs (l : List Input) (s : State) :
    opCompleteIdle (withInputs l s) = withInputs l (opCompleteIdle s) := by
  have hidle : idleExpired (withInputs l s) = idleExpired s := rfl
  unfold opCompleteIdle
  rw [hidle]
  cases idleExpired s
  · rfl
  · exact completeWith_withInputs .idle l s

theorem opTail_withInputs (l : List Input) (s : State) : opTail (withInputs l s) = withInputs l (opTail s) := by
  unfold opTail
  rw [withInputs_cfg]
  cases s.cfg.policy
  · rfl
  · exact opCompleteIdle_withInputs l s

theorem opAppend_withInputs (l : List Input) (s : State) :
    opAppend (withInputs l s) = withInputs l (opAppend s) := by
  unfold opAppend
  rw [withInputs_cfg]
  cases s.cfg.policy
  · exact opCompleteTerm_withInputs l (emit (.append s.wires.decData)
      { s with msgBuf := s.msgBuf ++ [s.wires.decData], lastAppendTime := s.now })
  · rfl

theorem opDeliver_withInputs (l : List Input) (s : State) :
    opDeliver (withInputs l s) = withInputs l (opDeliver s) := by
  unfold opDeliver
  rw [withInputs_wires, withInputs_cfg]
  cases s.wires.decAbort
  · cases isSentinel s.cfg s.wires.decData
    · exact opAppend_withInputs l s
    · rfl
  · rfl

theorem deliverWith_withInputs (abort : Bool) (u : Byte) (l : List Input) (s : State) :
    deliverWith abort u (withInputs l s) = withInputs l (deliverWith abort u s) :=
  opDeliver_withInputs l { s with wires := { s.wires with decAbort := abort, decData := u } }

/-- What ends a decode (R112, R115): DELIVER, then TAIL. -/
theorem opTail_deliverWith_withInputs (abort : Bool) (u : Byte) (l : List Input) (s : State) :
    opTail (deliverWith abort u (withInputs l s)) = withInputs l (opTail (deliverWith abort u s)) := by
  rw [deliverWith_withInputs, opTail_withInputs]

theorem opDecReturn_withInputs (l : List Input) (s : State) :
    opDecReturn (withInputs l s) = withInputs l (opDecReturn s) :=
  opTail_deliverWith_withInputs false s.rxShift l (endDecode (emit (.unit s.rxShift) s))

theorem afterBurst_withInputs (l : List Input) (s : State) :
    afterBurst (withInputs l s) = withInputs l (afterBurst s) := by
  cases hkind : s.burstKind with
  | host =>
    rw [afterBurst_of_host hkind, afterBurst_of_host (s := withInputs l s) hkind]
    exact opTail_withInputs l { s with ctl := .poll }
  | relay =>
    rw [afterBurst_of_relay hkind, afterBurst_of_relay (s := withInputs l s) hkind]
    rfl

theorem opBurstEnd_withInputs (l : List Input) (s : State) :
    opBurstEnd (withInputs l s) = withInputs l (opBurstEnd s) := by
  unfold opBurstEnd
  rw [withInputs_cfg]
  by_cases hsettle : 0 < s.cfg.tSettle
  · simp only [if_pos hsettle]
    rfl
  · simp only [if_neg hsettle]
    exact afterBurst_withInputs l s

theorem opFrameEnd_withInputs (l : List Input) (s : State) :
    opFrameEnd (withInputs l s) = withInputs l (opFrameEnd s) := by
  cases hnext : nextRelayUnit s with
  | some u =>
    rw [opFrameEnd_of_some hnext, opFrameEnd_of_some (s := withInputs l s) hnext]
    rfl
  | none =>
    rw [opFrameEnd_of_none hnext, opFrameEnd_of_none (s := withInputs l s) hnext]
    exact opBurstEnd_withInputs l (emit .txDone { s with isTransmitting := false })

section
variable {l : List Input} {s : State} (hint : intensityNow (withInputs l s) = intensityNow s)
include hint

theorem opSample_withInputs : opSample (withInputs l s) = withInputs l (opSample s) := by
  unfold opSample
  rw [hint]
  rfl

theorem opDecGuard_withInputs : opDecGuard (withInputs l s) = withInputs l (opDecGuard s) := by
  have hlevel : level (withInputs l s).cfg (intensityNow (withInputs l s)) = level s.cfg (intensityNow s) :=
    congrArg (level s.cfg) hint
  cases h : level s.cfg (intensityNow s)
  · rw [opDecGuard_of_low h, opDecGuard_of_low (hlevel.trans h), opSample_withInputs hint]
    rfl
  · rw [opDecGuard_of_high h, opDecGuard_of_high (hlevel.trans h), opSample_withInputs hint]
    exact opTail_deliverWith_withInputs true 0#8 l (endDecode (emit .abort (opSample s)))

theorem opDecSample_withInputs : opDecSample (withInputs l s) = withInputs l (opDecSample s) := by
  by_cases h : s.rxIdx.val < 7
  · rw [opDecSample_of_lt h, opDecSample_of_lt (s := withInputs l s) h, opSample_withInputs hint, hint]
    rfl
  · rw [opDecSample_of_last h, opDecSample_of_last (s := withInputs l s) h, opSample_withInputs hint, hint]
    rfl

/-- Outside POLL the selected operation reads the tick's intensity at most, and passes the input list on. -/
theorem exec_select_withInputs (hctl : s.ctl ≠ .poll) :
    exec (select s) (withInputs l s) = mapNext (withInputs l) (exec (select s) s) := by
  rcases select_cases s with ⟨hpoll, -⟩ | ⟨-, ht, hsel⟩ | ⟨-, hdue⟩
  · exact absurd hpoll hctl
  · rw [hsel]
    simp [exec, execWait, mapNext, ht, opWait, withInputs]
  · rcases hdue with ⟨-, hsel⟩ | ⟨-, hsel⟩ | ⟨-, hsel⟩ | ⟨-, h9, hsel⟩ | ⟨-, -, hsel⟩ | ⟨-, hsel⟩ <;> rw [hsel]
    · exact congrArg Host.Outcome.next (opDecGuard_withInputs hint)
    · exact congrArg Host.Outcome.next (opDecSample_withInputs hint)
    · exact congrArg Host.Outcome.next (opDecReturn_withInputs l s)
    · simp [exec, execSegAdvance, mapNext, h9, opSegAdvance, withInputs]
    · exact congrArg Host.Outcome.next (opFrameEnd_withInputs l s)
    · exact congrArg Host.Outcome.next (afterBurst_withInputs l s)

end

/-- The end of a tick drops the tick's own input, whichever it was. -/
theorem mapNext_endTick_withInputs (i j : Input) (rest : List Input) (o : Host.Outcome State Fault Refusal) :
    mapNext endTick (mapNext (withInputs (j :: rest)) o) = mapNext endTick (mapNext (withInputs (i :: rest)) o) := by
  cases o <;> rfl

/-- R90: outside POLL two inputs of the same intensity make the same step. -/
theorem step_withInputs_of_intensity_eq {s : State} {i j : Input} {rest : List Input} (hctl : s.ctl ≠ .poll)
    (hin : s.inputs = i :: rest) (hint : j.intensity = i.intensity) : step (withInputs (j :: rest) s) = step s := by
  have hlegal : inputLegal (withInputs (j :: rest) s) = inputLegal s := by
    simp [inputLegal, hin, hint]
  have hnow : intensityNow (withInputs (j :: rest) (beginTick s)) = intensityNow (beginTick s) := by
    simp [intensityNow, currentInput, hin, hint]
  have hself : withInputs (i :: rest) (beginTick s) = beginTick s := by
    rw [← hin]
    rfl
  have hexec : mapNext endTick (exec (select s) (withInputs (j :: rest) (beginTick s))) =
      mapNext endTick (exec (select s) (beginTick s)) :=
    calc mapNext endTick (exec (select s) (withInputs (j :: rest) (beginTick s)))
      _ = mapNext endTick (mapNext (withInputs (j :: rest)) (exec (select s) (beginTick s))) :=
        congrArg (mapNext endTick) (exec_select_withInputs hnow hctl)
      _ = mapNext endTick (mapNext (withInputs (i :: rest)) (exec (select s) (beginTick s))) :=
        mapNext_endTick_withInputs i j rest _
      _ = mapNext endTick (exec (select s) (withInputs (i :: rest) (beginTick s))) :=
        congrArg (mapNext endTick) (exec_select_withInputs (congrArg intensityNow hself) hctl).symm
      _ = mapNext endTick (exec (select s) (beginTick s)) := by rw [hself]
  rw [step, step, withInputs_cfg, hlegal, select_withInputs, beginTick_withInputs, hexec]

/-! ### The obligations -/

/-- Settles O4, from the word's value and its bits. -/
theorem frameWordHasTheTenSegmentLevels : Obligations.FrameWordHasTheTenSegmentLevels := fun b =>
  ⟨segLevel_zero b, fun _ h1 h8 => segLevel_of_data b h1 h8, segLevel_nine b,
    frameWord b, rfl, frameWord_toNat b, fun _ hk => frameWord_getLsbD b hk⟩

/-- Settles O32. At POLL the refusal is the poll's; elsewhere the two words differ in nothing the step looks at. -/
theorem reservedCommandIsRefusedAtPollOnly : Obligations.ReservedCommandIsRefusedAtPollOnly := by
  refine ⟨fun s => exec_cmdReserved_of_poll, fun s => exec_cmdReserved_of_not_poll, ?_, ?_⟩
  · intro s hlegal hin hctl hcmd
    have hpoll : execPoll (beginTick s) = .refused .reservedCommand :=
      execPoll_of_reserved (decodeCommand_eq_reserved hcmd)
    rw [step_of_poll hlegal hin hctl, hpoll]
    rfl
  · intro s i rest hctl hin _
    exact step_withInputs_of_intensity_eq hctl hin rfl

end Sys2Proof.Machine

/-! Proofs of the family 40_sequencer: POLL by the command it decodes (R82), and the command word outside POLL (R90). -/

namespace Sys2Proof.Machine

/-! ### The decoded command -/

/-- The four commands are four operations. -/
theorem command_toInstr_injective : Function.Injective Command.toInstr := fun
  | .send _, .send _, rfl => rfl
  | .nop, .nop, _ => rfl
  | .berReset, .berReset, _ => rfl
  | .reserved, .reserved, _ => rfl

/-- R66: a command word's operation is a command's own exactly when the word asks for that command. -/
theorem decode_cmd_eq_ok_toInstr_iff {w : CmdWord} {c : Command} :
    decode (.cmd w) = .ok c.toInstr ↔ decodeCommand w = c := by
  simp only [decode, Except.ok.injEq]
  exact command_toInstr_injective.eq_iff

/-! ### POLL, one equation for each command that it runs -/

theorem execPoll_of_send {s : State} {b : Byte} (hcmd : decodeCommand (cmdNow s) = .send b) :
    execPoll s = .next (opSend b s) := by
  simp [execPoll, hcmd]

theorem execPoll_of_nop {s : State} (hcmd : decodeCommand (cmdNow s) = .nop) :
    execPoll s = .next (edgeOrTail s) := by
  simp [execPoll, hcmd]

theorem execPoll_of_berReset {s : State} (hcmd : decodeCommand (cmdNow s) = .berReset) :
    execPoll s = .next (edgeOrTail (opBerClear s)) := by
  simp [execPoll, hcmd]

theorem exec_send_of_poll {s : State} (b : Byte) (hctl : s.ctl = .poll) : exec (.send b) s = .next (opSend b s) :=
  if_pos hctl

theorem exec_berReset_of_poll {s : State} (hctl : s.ctl = .poll) : exec .berReset s = .next (opBerClear s) :=
  if_pos hctl

/-- What POLL does after the command is one operation, the one the arbiter's gate picks (R147). -/
theorem exec_tail_or_edge (s : State) :
    exec (if s.isTransmitting then .tail else .edge) s = .next (edgeOrTail s) := by
  unfold edgeOrTail
  cases s.isTransmitting <;> rfl

/-! ### The obligations -/

/-- Settles O8, command by command. BER_RESET leaves the flag as it is, so the gate that the poll reads after it is
the one of the tick's start. -/
theorem pollRunsTheDecodedCommandThenTheEdgeDetector :
    Obligations.PollRunsTheDecodedCommandThenTheEdgeDetector := by
  intro s hctl
  refine ⟨fun b hdec => ?_, ?_, fun hdec => ?_⟩
  · have hcmd : decodeCommand (cmdNow s) = .send b := decode_cmd_eq_ok_toInstr_iff.mp hdec
    exact ⟨opSend b s, exec_send_of_poll b hctl, execPoll_of_send hcmd⟩
  · rintro i (rfl | rfl) hdec
    · have hcmd : decodeCommand (cmdNow s) = .nop := decode_cmd_eq_ok_toInstr_iff.mp hdec
      exact ⟨s, edgeOrTail s, rfl, exec_tail_or_edge s, execPoll_of_nop hcmd⟩
    · have hcmd : decodeCommand (cmdNow s) = .berReset := decode_cmd_eq_ok_toInstr_iff.mp hdec
      have hgate : s.isTransmitting = (opBerClear s).isTransmitting := rfl
      refine ⟨opBerClear s, edgeOrTail (opBerClear s), exec_berReset_of_poll hctl, ?_, execPoll_of_berReset hcmd⟩
      rw [hgate]
      exact exec_tail_or_edge (opBerClear s)
  · exact execPoll_of_reserved (decode_cmd_eq_ok_toInstr_iff.mp hdec)

/-- Settles O15: the other command word comes with the same intensity, and that is all a step outside POLL reads of
its input. -/
theorem commandIsNotLookedAtOutsidePoll : Obligations.CommandIsNotLookedAtOutsidePoll := fun _ _ _ _ hctl hin =>
  step_withInputs_of_intensity_eq hctl hin rfl

end Sys2Proof.Machine

/-! Proofs of the family 42_decoder: what DEC_START schedules (R111). -/

namespace Sys2Proof.Machine

/-! ### The half bit period -/

theorem tHalf_pos_of_two_le {c : Cfg} (hbit : 2 ≤ c.tBit) : 0 < tHalf c :=
  Nat.div_pos hbit Nat.two_pos

theorem tHalf_le_one_of_le_three {c : Cfg} (hbit : c.tBit ≤ 3) : tHalf c ≤ 1 :=
  Nat.div_le_div_right hbit

/-! ### DEC_START, one equation for each guard setting -/

theorem exec_decStart (s : State) : exec .decStart s = .next (opDecStart s) := rfl

theorem opDecStart_of_guard {s : State} (hguard : s.cfg.guardEn = true) :
    opDecStart s = { s with rxShift := 0#8, rxIdx := 0, ctl := .rxGuard, timer := tHalf s.cfg - 1 } :=
  if_pos hguard

theorem opDecStart_of_no_guard {s : State} (hguard : s.cfg.guardEn = false) :
    opDecStart s =
      { s with rxShift := 0#8, rxIdx := 0, ctl := .rxData, timer := tHalf s.cfg + s.cfg.tBit - 1 } :=
  if_neg (Bool.eq_false_iff.mp hguard)

/-! ### The wait it loads -/

/-- R111: at a legal bit period (R1) the subtraction is exact, so the tick that runs the due operation is the last
tick of the wait. -/
theorem opDecStart_timer_add_one {s : State} (hbit : 2 ≤ s.cfg.tBit) :
    (opDecStart s).timer + 1 = if s.cfg.guardEn then tHalf s.cfg else tHalf s.cfg + s.cfg.tBit := by
  have hhalf : 0 < tHalf s.cfg := tHalf_pos_of_two_le hbit
  cases hguard : s.cfg.guardEn with
  | true =>
    rw [opDecStart_of_guard hguard]
    exact Nat.sub_add_cancel hhalf
  | false =>
    rw [opDecStart_of_no_guard hguard]
    exact Nat.sub_add_cancel (Nat.add_pos_left hhalf s.cfg.tBit)

theorem opDecStart_timer_eq_zero_of_guard {s : State} (hguard : s.cfg.guardEn = true) (hbit : s.cfg.tBit ≤ 3) :
    (opDecStart s).timer = 0 := by
  rw [opDecStart_of_guard hguard]
  exact Nat.sub_eq_zero_of_le (tHalf_le_one_of_le_three hbit)

/-! ### The obligation -/

/-- Settles O38: the two guard settings are DEC_START's two equations, and the corner case is about the timer alone. -/
theorem decodeStartSchedulesTheGuardOrTheFirstSample :
    Obligations.DecodeStartSchedulesTheGuardOrTheFirstSample := fun s =>
  ⟨fun hguard => congrArg Host.Outcome.next (opDecStart_of_guard hguard),
    fun hguard => congrArg Host.Outcome.next (opDecStart_of_no_guard hguard),
    fun hbit => ⟨tHalf_pos_of_two_le hbit, opDecStart s, exec_decStart s, opDecStart_timer_add_one hbit,
      opDecStart_timer_eq_zero_of_guard⟩⟩

end Sys2Proof.Machine

/-! Proofs of the family 43_encoder: the end of a burst (R134). -/

namespace Sys2Proof.Machine

/-! ### BURST_END and SETTLE_END -/

theorem opBurstEnd_of_settle {s : State} (hsettle : 0 < s.cfg.tSettle) :
    opBurstEnd s = { s with ctl := .settle, timer := s.cfg.tSettle - 1 } :=
  if_pos hsettle

theorem opBurstEnd_of_no_settle {s : State} (hsettle : s.cfg.tSettle = 0) : opBurstEnd s = afterBurst s :=
  if_neg (Nat.not_lt.mpr hsettle.le)

/-- R134: the end of the settle wait, and BURST_END where there is none, are AFTER_BURST. -/
theorem exec_eq_afterBurst {s : State} {i : Instr}
    (hend : i = .settleEnd ∨ (i = .burstEnd ∧ s.cfg.tSettle = 0)) : exec i s = .next (afterBurst s) := by
  rcases hend with rfl | ⟨rfl, hsettle⟩
  · rfl
  · exact congrArg Host.Outcome.next (opBurstEnd_of_no_settle hsettle)

/-! ### The obligation -/

/-- Settles O45: a positive settle time is BURST_END's first branch; either way out of the burst is AFTER_BURST, which
goes by the kind of the burst. -/
theorem burstEndSettlesThenClearsOrRunsTheTail : Obligations.BurstEndSettlesThenClearsOrRunsTheTail := by
  refine ⟨fun s hsettle => congrArg Host.Outcome.next (opBurstEnd_of_settle hsettle), fun s i hend => ⟨?_, ?_⟩⟩
  · intro hrelay
    rw [exec_eq_afterBurst hend, afterBurst_of_relay hrelay]
    rfl
  · intro hhost
    refine ⟨opTail { s with ctl := .poll }, rfl, ?_⟩
    rw [exec_eq_afterBurst hend, afterBurst_of_host hhost]

end Sys2Proof.Machine

/-! Proofs of the family 44_arbiter: while the flag is set nothing is received (R147). -/

namespace Sys2Proof.Machine

/-! ### What an operation does to the receiver -/

/-- The registers that only a reception writes: the levels of the edge detector (R21, R22), the decoder's shift register
and bit index (R11, R13) and the time of the last append (R18). -/
def receiver (s : State) : Level × Level × Byte × Fin 8 × Nat :=
  (s.previousLevel, s.currentLevel, s.rxShift, s.rxIdx, s.lastAppendTime)

/-- A start-bit event or a data sample. -/
def IsReception (e : Event) : Prop := e = .start ∨ isSample e = true

/-- From `s` to `t` nothing was received: the receiver's registers stand, no start-bit event and no sample is new, and
no decode was entered. -/
structure ReceivesNothing (s t : State) : Prop where
  registers : receiver t = receiver s
  events : ∀ e ∈ t.events, IsReception e → e ∈ s.events
  decode : inDecode t → inDecode s

/-- An update of the other registers receives nothing, unless it enters a decode. -/
theorem ReceivesNothing.of_eq {s t : State} (hregs : receiver t = receiver s) (hev : t.events = s.events)
    (hdec : inDecode t → inDecode s) : ReceivesNothing s t :=
  ⟨hregs, fun _ he _ => hev ▸ he, hdec⟩

theorem ReceivesNothing.refl (s : State) : ReceivesNothing s s := .of_eq rfl rfl id

theorem ReceivesNothing.trans {s t u : State} (h : ReceivesNothing s t) (h' : ReceivesNothing t u) :
    ReceivesNothing s u where
  registers := h'.registers.trans h.registers
  events := fun e he hrec => h.events e (h'.events e he hrec) hrec
  decode := h.decode ∘ h'.decode

/-- An event of another kind emitted last receives nothing. -/
theorem ReceivesNothing.emit {s t : State} {e : Event} (h : ReceivesNothing s t) (he : ¬ IsReception e) :
    ReceivesNothing s (emit e t) where
  registers := h.registers
  events := fun e' hmem hrec => by
    rcases List.mem_append.mp hmem with hold | hnew
    · exact h.events e' hold hrec
    · exact absurd (List.mem_singleton.mp hnew ▸ hrec) he
  decode := h.decode

/-! ### The operations that the transmitter runs -/

/-- R131: a frame start ends in TX_SEG, whatever it started from. -/
theorem startFrame_receivesNothing (b : Byte) (s : State) : ReceivesNothing s (startFrame b s) :=
  ReceivesNothing.emit (.of_eq rfl rfl (by simp [inDecode])) (by simp [IsReception, isSample])

theorem opSegAdvance_receivesNothing (s : State) : ReceivesNothing s (opSegAdvance s) :=
  .of_eq rfl rfl id

theorem opWait_receivesNothing (s : State) : ReceivesNothing s (opWait s) :=
  .of_eq rfl rfl id

/-! ### The completion that the end of a burst may run -/

theorem opClear_receivesNothing (s : State) : ReceivesNothing s (opClear s) :=
  ReceivesNothing.emit (.of_eq rfl rfl id) (by simp [IsReception, isSample])

theorem opAccumulate_receivesNothing (s : State) : ReceivesNothing s (opAccumulate s) :=
  ReceivesNothing.emit (.of_eq rfl rfl id) (by simp [IsReception, isSample])

theorem opActBer_receivesNothing (s : State) : ReceivesNothing s (opActBer s) := by
  rw [opActBer_eq]
  generalize hq : opCompare _ = q
  have htotals : ReceivesNothing s q := by
    subst hq
    exact .of_eq rfl rfl id
  exact (htotals.trans (opAccumulate_receivesNothing q)).trans (opClear_receivesNothing _)

theorem opActRelay_receivesNothing (s : State) : ReceivesNothing s (opActRelay s) := by
  unfold opActRelay
  cases msgRead s 0 with
  | none => exact .refl s
  | some u =>
    have hburst : ReceivesNothing s { s with relayIdx := 0, burstKind := .relay } := .of_eq rfl rfl id
    exact hburst.trans (startFrame_receivesNothing u _)

theorem opComplete_receivesNothing (s : State) : ReceivesNothing s (opComplete s) := by
  have hmsg : ReceivesNothing s (emit (.msg s.msgBuf s.wires.cause) s) :=
    (ReceivesNothing.refl s).emit (by simp [IsReception, isSample])
  rcases opComplete_cases s with ⟨-, h⟩ | ⟨-, h⟩ | ⟨-, h⟩ <;> rw [h]
  · exact hmsg.trans (opClear_receivesNothing _)
  · exact hmsg.trans (opActBer_receivesNothing _)
  · exact hmsg.trans (opActRelay_receivesNothing _)

theorem completeWith_receivesNothing (c : Cause) (s : State) : ReceivesNothing s (completeWith c s) :=
  have hcause : ReceivesNothing s { s with wires := { s.wires with cause := c } } := .of_eq rfl rfl id
  hcause.trans (opComplete_receivesNothing _)

theorem opTail_receivesNothing (s : State) : ReceivesNothing s (opTail s) := by
  rcases opTail_cases s with ⟨h, -⟩ | ⟨-, -, h⟩ <;> rw [h]
  · exact .refl s
  · exact completeWith_receivesNothing .idle s

/-! ### The end of a frame and of a burst -/

theorem afterBurst_receivesNothing (s : State) : ReceivesNothing s (afterBurst s) := by
  have hpoll : ReceivesNothing s { s with ctl := .poll } := .of_eq rfl rfl (by simp [inDecode])
  rcases afterBurst_cases s with ⟨-, h⟩ | ⟨-, h⟩ <;> rw [h]
  · exact hpoll.trans (opClear_receivesNothing _)
  · exact hpoll.trans (opTail_receivesNothing _)

theorem opBurstEnd_receivesNothing (s : State) : ReceivesNothing s (opBurstEnd s) := by
  rcases opBurstEnd_cases s with ⟨-, h⟩ | ⟨-, h⟩ <;> rw [h]
  · exact .of_eq rfl rfl (by simp [inDecode])
  · exact afterBurst_receivesNothing s

theorem opFrameEnd_receivesNothing (s : State) : ReceivesNothing s (opFrameEnd s) := by
  have hdone (k : Nat) : ReceivesNothing s (emit .txDone { s with isTransmitting := false, relayIdx := k }) :=
    ReceivesNothing.emit (.of_eq rfl rfl id) (by simp [IsReception, isSample])
  rcases opFrameEnd_cases s with ⟨u, -, -, h⟩ | ⟨-, h⟩ <;> rw [h]
  · exact (hdone (s.relayIdx + 1)).trans (startFrame_receivesNothing u _)
  · exact (hdone s.relayIdx).trans (opBurstEnd_receivesNothing _)

/-! ### A step in TX_SEG -/

/-- A step in TX_SEG waits, advances the segment or ends the frame (R81). -/
theorem step_of_txSeg {s t : State} (hctl : s.ctl = .txSeg) (h : step s = .next t) :
    t = endTick (opWait (beginTick s)) ∨ t = endTick (opSegAdvance (beginTick s)) ∨
      t = endTick (opFrameEnd (beginTick s)) := by
  have hcases := step_cases h
  simp only [hctl, reduceCtorEq, false_and, false_or, or_false, ne_eq, not_false_eq_true, true_and] at hcases
  rcases hcases with ⟨-, ht⟩ | ⟨-, -, ht⟩ | ⟨-, -, ht⟩
  · exact .inl ht
  · exact .inr (.inl ht)
  · exact .inr (.inr ht)

/-- The step is compared with the begun tick, whose event list is empty (R33), so no event of it is a reception. -/
theorem step_receivesNothing_of_txSeg {s t : State} (hctl : s.ctl = .txSeg) (h : step s = .next t) :
    ReceivesNothing (beginTick s) t := by
  have hend (u : State) : ReceivesNothing u (endTick u) := .of_eq rfl rfl id
  rcases step_of_txSeg hctl h with rfl | rfl | rfl
  · exact (opWait_receivesNothing _).trans (hend _)
  · exact (opSegAdvance_receivesNothing _).trans (hend _)
  · exact (opFrameEnd_receivesNothing _).trans (hend _)

/-! ### The obligation -/

/-- Settles O20: by the invariant the flag says TX_SEG, and none of the operations run there receives. -/
theorem nothingIsReceivedWhileTransmitting : Obligations.NothingIsReceivedWhileTransmitting := by
  intro s t hinv hflag h
  have hctl : s.ctl = .txSeg := hinv.flag.mp hflag
  obtain ⟨hregs, hevents, hdecode⟩ := step_receivesNothing_of_txSeg hctl h
  simp only [receiver, beginTick_previousLevel, beginTick_currentLevel, beginTick_rxShift, beginTick_rxIdx,
    beginTick_lastAppendTime, Prod.mk.injEq] at hregs
  obtain ⟨hprev, hcur, hshift, hidx, htime⟩ := hregs
  have hnone (e : Event) (he : e ∈ t.events) : ¬ IsReception e := fun hrec => List.not_mem_nil (hevents e he hrec)
  refine ⟨hprev, hcur, hshift, hidx, htime, fun hstart => hnone _ hstart (.inl rfl), fun e he => ?_, fun hin => ?_⟩
  · exact Bool.eq_false_iff.mpr fun hsample => hnone e he (.inr hsample)
  · simpa [inDecode, hctl] using hdecode hin

end Sys2Proof.Machine

/-! Proofs of the family 45_assembler: DELIVER (R156), APPEND (R157), the accounting of ACT_BER (R162) and the release
of the buffer (R161, R164). -/

namespace Sys2Proof.Machine

/-! ### The comparison counts the differing bits (R180) -/

/-- A bit of the exclusive or is set where the two units differ, and `popcount` counts the set bits. -/
theorem popcount_xor (r u : Byte) :
    popcount (r ^^^ u) = ((Finset.range 8).filter (fun j => r.getLsbD j ≠ u.getLsbD j)).card := by
  have hbit (j : Nat) : (r ^^^ u).getLsbD j = decide (r.getLsbD j ≠ u.getLsbD j) := by
    rw [BitVec.getLsbD_xor]
    cases r.getLsbD j <;> cases u.getLsbD j <;> rfl
  calc popcount (r ^^^ u) = Nat.count (fun j => r.getLsbD j ≠ u.getLsbD j) 8 := by
        simp only [popcount, Nat.count, hbit]
    _ = _ := Nat.count_eq_card_filter_range _ 8

/-- The pairs of a position and a bit place, counted one position after the other. -/
theorem differingBits_eq_sum (ref rcv : List Byte) :
    differingBits ref rcv = ∑ k ∈ Finset.range (min ref.length rcv.length),
      popcount (ref.getD k 0#8 ^^^ rcv.getD k 0#8) := by
  simp only [differingBits, popcount_xor, Finset.card_filter]
  exact Finset.sum_product _ _ _

theorem differingBits_cons (r u : Byte) (rs us : List Byte) :
    differingBits (r :: rs) (u :: us) = popcount (r ^^^ u) + differingBits rs us := by
  have hlen : min (r :: rs).length (u :: us).length = min rs.length us.length + 1 :=
    Nat.succ_min_succ rs.length us.length
  rw [differingBits_eq_sum, differingBits_eq_sum, hlen, Finset.sum_range_succ', Nat.add_comm]
  rfl

/-- R180: the errors of the comparison, a sum over the common length, are the bits in which the two messages differ. -/
theorem compareUnits_errs (ref rcv : List Byte) : (compareUnits ref rcv).2 = differingBits ref rcv := by
  induction ref generalizing rcv with
  | nil => simp [compareUnits, differingBits]
  | cons r rs ih =>
    cases rcv with
    | nil => simp [compareUnits, differingBits]
    | cons u us =>
      rw [differingBits_cons, ← ih us]
      rfl

/-- COMPARE in one record (R180). -/
theorem opCompare_eq (s : State) :
    opCompare s = { s with wires := { s.wires with
      cmpBits := 8 * min s.cfg.ref.length s.msgBuf.length, cmpErrs := differingBits s.cfg.ref s.msgBuf } } := by
  rw [opCompare, compareUnits_errs]
  rfl

/-! ### The accounting and the release -/

/-- ACCUMULATE, then CLEAR (R181, R164): two events, the new totals and an empty buffer. -/
theorem opClear_opAccumulate (s : State) :
    opClear (opAccumulate s) = { s with
      totalBitsCompared := s.totalBitsCompared + s.wires.cmpBits, bitErrors := s.bitErrors + s.wires.cmpErrs,
      msgBuf := [],
      events := s.events ++ [.ber s.wires.cmpBits s.wires.cmpErrs
        (s.totalBitsCompared + s.wires.cmpBits) (s.bitErrors + s.wires.cmpErrs), .clear] } := by
  simp [opClear, opAccumulate, emit]

/-! ### DELIVER, one equation for each kind of unit -/

/-- R156: the sentinel is the unit 0x00, where the configuration names it. -/
theorem isSentinel_iff (c : Cfg) (u : Byte) : isSentinel c u = true ↔ c.nulSentinel = true ∧ u = 0#8 := by
  simp [isSentinel]

theorem opDeliver_of_abort {s : State} (habort : s.wires.decAbort = true) : opDeliver s = s :=
  if_pos habort

theorem opDeliver_of_sentinel {s : State} (habort : s.wires.decAbort = false)
    (hsent : isSentinel s.cfg s.wires.decData = true) : opDeliver s = emit (.drop s.wires.decData) s :=
  (if_neg (Bool.eq_false_iff.mp habort)).trans (if_pos hsent)

theorem opDeliver_of_unit {s : State} (habort : s.wires.decAbort = false)
    (hsent : ¬ isSentinel s.cfg s.wires.decData = true) : opDeliver s = opAppend s :=
  (if_neg (Bool.eq_false_iff.mp habort)).trans (if_neg hsent)

/-! ### APPEND, one equation for each policy -/

/-- What APPEND writes under both policies (R157). -/
def appended (s : State) : State :=
  { s with msgBuf := s.msgBuf ++ [s.wires.decData], lastAppendTime := s.now,
           events := s.events ++ [.append s.wires.decData] }

theorem opAppend_of_idleTimeout {s : State} (hpolicy : s.cfg.policy = .idleTimeout) : opAppend s = appended s := by
  unfold opAppend
  rw [hpolicy]
  rfl

theorem opAppend_of_terminator {s : State} (hpolicy : s.cfg.policy = .terminator) :
    opAppend s = opCompleteTerm (appended s) := by
  unfold opAppend
  rw [hpolicy]
  rfl

theorem appended_msgBuf_ne_nil (s : State) : (appended s).msgBuf ≠ [] := List.concat_ne_nil _ _

/-- R165: with a unit in the buffer a relay has one to send, so the terminator test completes (log 9). -/
theorem exec_completeTerm_of_ne_nil {s : State} (hbuf : s.msgBuf ≠ []) :
    exec .completeTerm s = .next (opCompleteTerm s) := by
  have hunit : relaysNothing s = false := by simp [relaysNothing, hbuf]
  simp [exec, execCompleteTerm, hunit]

/-! ### The obligations -/

/-- Settles O56: the totals start from zero or go on (`opActBer_eq`), the comparison is the count of the differing bits,
and the buffer it was made on is then released. -/
theorem berActionAccountsTheMessageAndClearsIt : Obligations.BerActionAccountsTheMessageAndClearsIt := by
  rintro s _ _ _ _ rfl rfl rfl rfl
  have hrecord := opActBer_eq s
  rw [opCompare_eq, opClear_opAccumulate] at hrecord
  exact congrArg Host.Outcome.next hrecord

/-- Settles O46, by the three equations of DELIVER. -/
theorem deliverIgnoresAbortAndSentinel : Obligations.DeliverIgnoresAbortAndSentinel := by
  refine fun s => ⟨fun habort => congrArg Host.Outcome.next (opDeliver_of_abort habort), ?_, ?_⟩
  · intro habort hnul hzero
    have hdrop := opDeliver_of_sentinel habort ((isSentinel_iff _ _).mpr ⟨hnul, hzero⟩)
    rw [hzero] at hdrop
    exact congrArg Host.Outcome.next hdrop
  · intro habort hother
    have hsent : ¬ isSentinel s.cfg s.wires.decData = true := by
      rw [isSentinel_iff, not_and_or, Bool.not_eq_true]
      exact hother
    exact ⟨opAppend s, rfl, congrArg Host.Outcome.next (opDeliver_of_unit habort hsent)⟩

/-- Settles O47: either policy goes on from the same appended state, whose buffer is not empty. -/
theorem appendAddsAtTheEndAndRecordsTheTime : Obligations.AppendAddsAtTheEndAndRecordsTheTime := fun s =>
  ⟨fun hpolicy => congrArg Host.Outcome.next (opAppend_of_idleTimeout hpolicy),
    fun hpolicy => ⟨opCompleteTerm (appended s), exec_completeTerm_of_ne_nil (appended_msgBuf_ne_nil s),
      congrArg Host.Outcome.next (opAppend_of_terminator hpolicy)⟩⟩

/-- Settles O51: ACT_NONE is CLEAR, and CLEAR is one record. -/
theorem clearAndActNoneReleaseTheBuffer : Obligations.ClearAndActNoneReleaseTheBuffer := fun _ => ⟨rfl, rfl⟩

end Sys2Proof.Machine

/-! Proofs of the family 46_ber: COMPARE (R180), the clear of the totals (R183) and BER_RATIO (R184). -/

namespace Sys2Proof.Machine

/-! ### The clear (R183) -/

/-- A second clear finds nothing to do. -/
@[simp] theorem opBerClear_opBerClear (s : State) : opBerClear (opBerClear s) = opBerClear s := rfl

/-- Per message, the comparison starts from cleared totals (R182). -/
theorem opActBer_of_perMessage {s : State} (hper : s.cfg.berPerMessage = true) :
    opActBer s = opClear (opAccumulate (opCompare (opBerClear s))) := by
  rw [opActBer, if_pos hper]

/-- So a clear before it makes no difference (R183). -/
theorem opActBer_opBerClear {s : State} (hper : s.cfg.berPerMessage = true) :
    opActBer (opBerClear s) = opActBer s := by
  have hcleared : (opBerClear s).cfg.berPerMessage = true := hper
  rw [opActBer_of_perMessage hcleared, opActBer_of_perMessage hper, opBerClear_opBerClear]

/-! ### The ratio (R184) -/

theorem berRatioOf_of_zero {s : State} (htotal : s.totalBitsCompared = 0) : berRatioOf s = none := if_pos htotal

/-- With a bit compared the ratio is the quotient of the totals. -/
theorem berRatioOf_of_ne_zero {s : State} (htotal : s.totalBitsCompared ≠ 0) :
    berRatioOf s = some ((s.bitErrors : Rat) / s.totalBitsCompared) := by
  rw [berRatioOf, if_neg htotal, Rat.mkRat_eq_div, Int.cast_natCast]

/-- BER_RATIO puts the value of R184 on its wire. -/
theorem exec_berRatio_of_eq {s : State} {r : Option Rat} (hratio : berRatioOf s = r) :
    exec .berRatio s = .next { s with wires := { s.wires with ratio := r } } :=
  hratio ▸ rfl

/-! ### The obligations -/

/-- Settles O54: COMPARE is the record of `opCompare_eq`, whose errors are the count of the differing bits. -/
theorem compareCountsTheDifferingBits : Obligations.CompareCountsTheDifferingBits := fun s =>
  congrArg Host.Outcome.next (opCompare_eq s)

/-- Settles O57: the ratio is the quotient of the totals, whose denominator is positive once a bit is compared. -/
theorem berRatioIsExactOrNoValue : Obligations.BerRatioIsExactOrNoValue := by
  intro s
  refine ⟨fun hzero => ⟨?_, exec_berRatio_of_eq (berRatioOf_of_zero hzero)⟩, fun hne => ?_⟩
  · exact Bool.eq_false_iff.mpr fun hdef => ((berDefined_eq_true_iff s).mp hdef).ne' hzero
  · have hdef : berDefined s = true := (berDefined_eq_true_iff s).mpr (Nat.pos_of_ne_zero hne)
    refine ⟨hdef, _, exec_berRatio_of_eq (berRatioOf_of_ne_zero hne), ?_, fun hle => ⟨?_, ?_⟩⟩
    · exact div_mul_cancel₀ _ (Nat.cast_ne_zero.mpr hne)
    · exact div_nonneg (Nat.cast_nonneg _) (Nat.cast_nonneg _)
    · exact div_le_one_of_le₀ (Nat.cast_le.mpr hle) (Nat.cast_nonneg _)

/-- Settles O30: BER_CLEAR is one record, BER_RESET at a POLL tick and a per-message ACT_BER go through it, and the reset
record has both totals at 0. -/
theorem berClearAndBerResetZeroBothTotals : Obligations.BerClearAndBerResetZeroBothTotals :=
  ⟨fun _ => rfl, fun _ => exec_berReset_of_poll, fun _ hper => congrArg Host.Outcome.next (opActBer_opBerClear hper),
    fun _ => ⟨rfl, rfl⟩⟩

end Sys2Proof.Machine

/-! Proofs of the family other, the encodings (30_encoding.md): the decoder and the encoder of each format undo one
another, and every decoded word lies in its row of the opcode table. -/

namespace Sys2Proof.Machine

/-! ### Command words (R65, R66) -/

@[simp] theorem cmdOp_append (op : BitVec 2) (b : Byte) : cmdOp (op ++ b) = op := by
  apply BitVec.eq_of_toNat_eq
  have hb := b.isLt
  rw [cmdOp_toNat, BitVec.toNat_append, ← Nat.shiftLeft_add_eq_or_of_lt hb, Nat.shiftLeft_eq]
  omega

theorem cmdData_toNat (w : CmdWord) : (cmdData w).toNat = w.toNat % 256 := by
  simp [cmdData, BitVec.extractLsb'_toNat]

@[simp] theorem cmdData_append (op : BitVec 2) (b : Byte) : cmdData (op ++ b) = b := by
  apply BitVec.eq_of_toNat_eq
  have hb := b.isLt
  rw [cmdData_toNat, BitVec.toNat_append, ← Nat.shiftLeft_add_eq_or_of_lt hb, Nat.shiftLeft_eq]
  omega

/-- R65: a command word is its code above its data byte. -/
theorem cmdOp_append_cmdData (w : CmdWord) : cmdOp w ++ cmdData w = w := by
  apply BitVec.eq_of_toNat_eq
  rw [BitVec.toNat_append, ← Nat.shiftLeft_add_eq_or_of_lt (cmdData w).isLt, Nat.shiftLeft_eq, cmdOp_toNat,
    cmdData_toNat]
  omega

/-- The word with its ignored bits 0, as a number. -/
theorem cmdOp_append_zero (w : CmdWord) : cmdOp w ++ 0#8 = BitVec.ofNat 10 (w.toNat / 256 * 256) := by
  apply BitVec.eq_of_toNat_eq
  have hw := w.isLt
  rw [BitVec.toNat_append, ← Nat.shiftLeft_add_eq_or_of_lt (0#8).isLt, Nat.shiftLeft_eq, cmdOp_toNat,
    BitVec.toNat_ofNat, BitVec.toNat_ofNat]
  omega

theorem cmdOp_eq_of_toNat {w : CmdWord} {op : BitVec 2} (h : w.toNat / 256 = op.toNat) : cmdOp w = op :=
  BitVec.eq_of_toNat_eq ((cmdOp_toNat w).trans h)

/-- R66: the command by the code, one arm each. -/
theorem decodeCommand_cases (w : CmdWord) :
    (cmdOp w = 0#2 ∧ decodeCommand w = .nop) ∨ (cmdOp w = 1#2 ∧ decodeCommand w = .send (cmdData w)) ∨
    (cmdOp w = 2#2 ∧ decodeCommand w = .berReset) ∨ (cmdOp w = 3#2 ∧ decodeCommand w = .reserved) := by
  have hop : cmdOp w = 0#2 ∨ cmdOp w = 1#2 ∨ cmdOp w = 2#2 ∨ cmdOp w = 3#2 := by
    generalize cmdOp w = op
    revert op
    decide
  rcases hop with h | h | h | h <;> simp [decodeCommand, h]

theorem decodeCommand_encodeCommand (c : Command) : decodeCommand (encodeCommand c) = c := by
  cases c with
  | nop | berReset | reserved => rfl
  | send b => simp only [encodeCommand, decodeCommand, cmdOp_append, cmdData_append]

theorem encode_toInstr (c : Command) : encode c.toInstr = .cmd (encodeCommand c) := by
  cases c <;> rfl

/-- R66: only SEND keeps the data byte. -/
theorem encodeCommand_decodeCommand (w : CmdWord) :
    encodeCommand (decodeCommand w) = w ∨
      (w.toNat / 256 ≠ 1 ∧ encodeCommand (decodeCommand w) = BitVec.ofNat 10 (w.toNat / 256 * 256)) := by
  rw [← cmdOp_append_zero, ← cmdOp_toNat]
  rcases decodeCommand_cases w with ⟨hop, hdec⟩ | ⟨hop, hdec⟩ | ⟨hop, hdec⟩ | ⟨hop, hdec⟩ <;> rw [hdec, hop]
  · exact .inr ⟨by decide, rfl⟩
  · refine .inl ?_
    conv_rhs => rw [← cmdOp_append_cmdData w, hop]
    rfl
  · exact .inr ⟨by decide, rfl⟩
  · exact .inr ⟨by decide, rfl⟩

/-! ### Frame words and levels (R61, R63) -/

theorem frameWord_startLow (b : Byte) : (frameWord b).getLsbD 0 = false := frameWord_getLsbD b (by decide)

theorem frameWord_stopHigh (b : Byte) : (frameWord b).getLsbD 9 = true := frameWord_getLsbD b (by decide)

theorem frameWord_unit (b : Byte) : (frameWord b).extractLsb' 1 8 = b := by
  apply BitVec.eq_of_getLsbD_eq
  intro j hj
  have hseg := frameWord_getLsbD b (k := 1 + j) (by omega)
  rw [segLevel_of_data b (by omega) (by omega), Nat.add_sub_cancel_left] at hseg
  simp [hj, hseg]

theorem decodeFrame_frameWord (b : Byte) : decodeFrame (frameWord b) = .ok (.frame b) := by
  rw [decodeFrame, frameWord_startLow, frameWord_stopHigh, frameWord_unit]
  rfl

/-- A word with a low start and a high stop is the frame of its middle byte. -/
theorem frameWord_extract {w : BitVec 10} (hstart : w.getLsbD 0 = false) (hstop : w.getLsbD 9 = true) :
    frameWord (w.extractLsb' 1 8) = w := by
  apply BitVec.eq_of_getLsbD_eq
  intro k hk
  rw [frameWord_getLsbD _ hk]
  have hsplit : k = 0 ∨ (1 ≤ k ∧ k ≤ 8) ∨ k = 9 := by omega
  rcases hsplit with rfl | ⟨h1, h8⟩ | rfl
  · exact hstart.symm
  · have hbit : k - 1 < 8 := by omega
    rw [segLevel_of_data _ h1 h8, BitVec.getLsbD_extractLsb', Nat.add_sub_cancel' h1]
    simp [hbit]
  · exact hstop.symm

/-- The three answers of the frame decoder. -/
theorem decodeFrame_cases (w : BitVec 10) :
    (w.getLsbD 0 = true ∧ decodeFrame w = .error .startNotLow) ∨
    (w.getLsbD 0 = false ∧ w.getLsbD 9 = false ∧ decodeFrame w = .error .stopNotHigh) ∨
    (w.getLsbD 0 = false ∧ w.getLsbD 9 = true ∧ decodeFrame w = .ok (.frame (w.extractLsb' 1 8))) := by
  unfold decodeFrame
  cases hstart : w.getLsbD 0
  · cases hstop : w.getLsbD 9 <;> simp
  · simp

/-! ### Identifiers (R70) -/

theorem opOfId_eq_none_iff (n : Nat) : opOfId n = none ↔ 27 ≤ n := by
  constructor
  · intro hnone
    by_contra hlt
    rw [not_le] at hlt
    interval_cases n <;> exact absurd hnone (by decide)
  · intro hle
    obtain ⟨m, rfl⟩ := Nat.exists_eq_add_of_le' hle
    rfl

theorem encode_of_opOfId {n : Nat} {i : Instr} (h : opOfId n = some i) : encode i = .opId (BitVec.ofNat 5 n) := by
  have hlt : n < 27 := by
    by_contra hge
    rw [(opOfId_eq_none_iff n).mpr (not_lt.mp hge)] at h
    cases h
  interval_cases n <;> cases h <;> rfl

/-- The two answers of the identifier decoder. -/
theorem decodeOpId_cases (w : BitVec 5) :
    (27 ≤ w.toNat ∧ decodeOpId w = .error .unusedOpId) ∨
    (w.toNat < 27 ∧ ∃ i, opOfId w.toNat = some i ∧ decodeOpId w = .ok i) := by
  unfold decodeOpId
  cases h : opOfId w.toNat with
  | none => exact .inl ⟨(opOfId_eq_none_iff _).mp h, rfl⟩
  | some i =>
    have hlt : ¬ 27 ≤ w.toNat := fun hle => by
      rw [(opOfId_eq_none_iff _).mpr hle] at h
      cases h
    exact .inr ⟨not_le.mp hlt, i, rfl, rfl⟩

/-! ### The rows of the opcode table -/

/-- Every operation's own word is in its row. -/
theorem encodesItsRow (i : Instr) : Laws.EncodesItsRow.Statement i := by
  cases i with
  | send b => exact Laws.EncodesItsRow.send b
  | frame b => exact Laws.EncodesItsRow.frame b
  | _ => exact rfl

/-- The mask of a command's row looks at the code alone (R66). -/
theorem and_commandMask (n : Nat) : n &&& 0x300 = n / 256 * 256 &&& 0x300 := by
  apply Nat.eq_of_testBit_eq
  intro j
  have hmask : (0x300 : Nat).testBit j = (decide (8 ≤ j) && Nat.testBit 3 (j - 8)) := Nat.testBit_mul_two_pow 3 j 8
  have hword : (n / 2 ^ 8 * 2 ^ 8).testBit j = (decide (8 ≤ j) && n.testBit (j - 8 + 8)) := by
    rw [Nat.testBit_mul_two_pow, Nat.testBit_div_two_pow]
  change _ = (n / 2 ^ 8 * 2 ^ 8 &&& 0x300).testBit j
  rw [Nat.testBit_and, Nat.testBit_and, hmask, hword]
  by_cases hj : 8 ≤ j
  · simp [hj]
  · simp [hj]

theorem tableRow_toInstr_mask (c : Command) : (tableRow c.toInstr).mask = 0x300 := by
  cases c <;> rfl

/-- A command word is in its command's row, whatever its ignored bits. -/
theorem command_row (w : CmdWord) :
    w.toNat &&& (tableRow (decodeCommand w).toInstr).mask = (tableRow (decodeCommand w).toInstr).pattern := by
  have hrow := encodesItsRow (decodeCommand w).toInstr
  rw [Laws.EncodesItsRow.Statement, encode_toInstr, Code.toNat, tableRow_toInstr_mask] at hrow
  rw [tableRow_toInstr_mask, ← hrow]
  rcases encodeCommand_decodeCommand w with heq | ⟨-, heq⟩ <;> rw [heq]
  have hw := w.isLt
  rw [BitVec.toNat_ofNat, Nat.mod_eq_of_lt (by omega)]
  exact and_commandMask w.toNat

/-- Outside the commands the encoder gives back the very word that was decoded. -/
theorem encode_of_decode {c : Code} {i : Instr} (hcmd : ∀ w, c ≠ .cmd w) (h : decode c = .ok i) : encode i = c := by
  cases c with
  | cmd w => exact absurd rfl (hcmd w)
  | frame w =>
    rw [decode] at h
    rcases decodeFrame_cases w with ⟨-, hdec⟩ | ⟨-, -, hdec⟩ | ⟨hstart, hstop, hdec⟩ <;> rw [hdec] at h <;> cases h
    exact congrArg Code.frame (frameWord_extract hstart hstop)
  | level l =>
    have hl : l = 0#1 ∨ l = 1#1 := by
      clear hcmd h
      revert l
      decide
    rcases hl with rfl | rfl <;> cases h
    rfl
  | opId w =>
    rw [decode] at h
    rcases decodeOpId_cases w with ⟨-, hdec⟩ | ⟨-, j, hid, hdec⟩ <;> rw [hdec] at h <;> cases h
    rw [encode_of_opOfId hid, BitVec.ofNat_toNat, BitVec.setWidth_eq]

/-! ### The obligations -/

/-- Settles O1: the commands and the frame by their own round trips; the 28 words without operands are literals. -/
theorem decodeOfEncodeIsTheOperation : Obligations.DecodeOfEncodeIsTheOperation := by
  intro i
  cases i with
  | send b => exact congrArg (fun c => Except.ok c.toInstr) (decodeCommand_encodeCommand (.send b))
  | frame b => exact decodeFrame_frameWord b
  | _ => rfl

/-- Settles O2: a command is in its row by its code alone; any other word is the encoder's own, which is in its row. -/
theorem decodedWordIsInItsTableRow : Obligations.DecodedWordIsInItsTableRow := by
  intro c i h
  by_cases hcmd : ∃ w, c = .cmd w
  · obtain ⟨w, rfl⟩ := hcmd
    obtain rfl : (decodeCommand w).toInstr = i := Except.ok.inj h
    refine ⟨command_row w, ?_⟩
    rw [encode_toInstr]
    rcases encodeCommand_decodeCommand w with heq | ⟨hne, heq⟩
    · exact .inl (congrArg Code.cmd heq)
    · exact .inr ⟨w, rfl, hne, congrArg Code.cmd heq⟩
  · have henc : encode i = c := encode_of_decode (fun w hw => hcmd ⟨w, hw⟩) h
    exact ⟨henc ▸ encodesItsRow i, .inl henc⟩

/-- Settles O3: the range of the word fixes its code. -/
theorem commandWordSelectsByItsHighBits : Obligations.CommandWordSelectsByItsHighBits := by
  intro w
  have hcode {op : BitVec 2} (h : w.toNat / 256 = op.toNat) : cmdOp w = op := cmdOp_eq_of_toNat h
  refine ⟨fun hlt => ?_, fun hge hlt => ⟨cmdData w, ?_, ?_⟩, fun hge hlt => ?_, fun hge => ?_⟩
  · have hop : cmdOp w = 0#2 := hcode (Nat.div_eq_of_lt hlt)
    simp [decode, decodeCommand, hop, Command.toInstr]
  · rw [cmdData_toNat]
    omega
  · have hop : cmdOp w = 1#2 := hcode (show w.toNat / 256 = 1 by omega)
    simp [decode, decodeCommand, hop, Command.toInstr]
  · have hop : cmdOp w = 2#2 := hcode (show w.toNat / 256 = 2 by omega)
    simp [decode, decodeCommand, hop, Command.toInstr]
  · exact decode_cmd_eq_ok_toInstr_iff.mpr (decodeCommand_eq_reserved hge)

/-- Settles O5, by the answers of each decoder. -/
theorem wordsThatAreNoOperationAreRejectedByName : Obligations.WordsThatAreNoOperationAreRejectedByName := by
  refine ⟨fun w => ?_, fun w => ?_, fun w => ?_, rfl⟩
  · rcases decodeOpId_cases w with ⟨hle, hdec⟩ | ⟨hlt, i, -, hdec⟩
    · exact iff_of_true hle hdec
    · exact iff_of_false (not_le.mpr hlt) (by simp only [decode, hdec, reduceCtorEq, not_false_eq_true])
  · rcases decodeFrame_cases w with ⟨hstart, hdec⟩ | ⟨hstart, -, hdec⟩ | ⟨hstart, -, hdec⟩ <;>
      simp only [decode, hdec, hstart, Bool.false_eq_true, reduceCtorEq, Except.error.injEq]
  · rcases decodeFrame_cases w with ⟨hstart, hdec⟩ | ⟨hstart, hstop, hdec⟩ | ⟨-, hstop, hdec⟩
    · simp only [decode, hdec, hstart, Bool.true_eq_false, false_and, reduceCtorEq, Except.error.injEq]
    · exact iff_of_true ⟨hstart, hstop⟩ hdec
    · simp only [decode, hdec, hstop, Bool.true_eq_false, and_false, reduceCtorEq]

/-- Settles O6: nine literal words, each evaluated by the decoder of its format. -/
theorem wordsOfTheSpecDecode : Obligations.WordsOfTheSpecDecode := ⟨rfl, rfl, rfl, rfl, rfl, rfl, rfl, rfl, rfl⟩

end Sys2Proof.Machine

/-! Proofs of the family other, the invariant of the node (R29): it is carried through the operations of one tick, the
wires apart, and the end of the tick puts these at rest. -/

namespace Sys2Proof.Machine

/-! ### The invariant inside a tick -/

/-- The invariant inside a tick: that of the same state with its wires at rest. -/
def InvInTick (s : State) : Prop := NodeInv { s with wires := Wires.rest }

theorem InvInTick.of_nodeInv {s : State} (h : NodeInv s) : InvInTick (beginTick s) := { h with wires := rfl }

/-- The end of a tick: time moves on, so an append is still not in the future. -/
theorem InvInTick.nodeInv_endTick {s : State} (h : InvInTick s) : NodeInv (endTick s) :=
  { h with append := fun hbuf => Nat.le_succ_of_le (h.append hbuf) }

/-- The invariant does not speak of the events and, inside a tick, not of the wires. -/
theorem InvInTick.withEventsWires {s : State} (h : InvInTick s) (es : List Event) (w : Wires) :
    InvInTick { s with events := es, wires := w } := { h with }

theorem InvInTick.emit {s : State} (h : InvInTick s) (e : Event) : InvInTick (emit e s) :=
  h.withEventsWires (s.events ++ [e]) s.wires

/-- A new comparison keeps what R185 says of the totals. -/
theorem InvInTick.withTotals {s : State} (h : InvInTick s) {total errors : Nat} (hle : errors ≤ total)
    (hmod : total % 8 = 0) : InvInTick { s with totalBitsCompared := total, bitErrors := errors } :=
  { h with errors := hle, total := hmod }

/-- The receiver's registers matter in a decode only. -/
theorem InvInTick.withLevels {s : State} (h : InvInTick s) (hctl : s.ctl = .poll) (previous current : Level) :
    InvInTick { s with previousLevel := previous, currentLevel := current } :=
  { h with edgeLow := fun hdec => by simp [inDecode, hctl] at hdec }

/-- A state that sends nothing and is in no decode meets the clauses about `ctl` with the flag clear and a high level. -/
theorem InvInTick.toIdle {s : State} (h : InvInTick s) {c : Ctl} (hc : c = .poll ∨ c = .settle)
    (hlevel : s.txLevel = true) {f : Bool} (hf : f = false) (n : Nat) :
    InvInTick { s with ctl := c, isTransmitting := f, timer := n } := by
  have hsend : c ≠ .txSeg := by rcases hc with rfl | rfl <;> decide
  have hguard : c ≠ .rxGuard := by rcases hc with rfl | rfl <;> decide
  have hdata : c ≠ .rxData := by rcases hc with rfl | rfl <;> decide
  have htrail : c ≠ .rxTrail := by rcases hc with rfl | rfl <;> decide
  exact { h with
    flag := by simp [hsend, hf]
    relay := fun heq => absurd heq hsend
    sending := fun heq => absurd heq hsend
    restsHigh := fun _ => hlevel
    edgeLow := fun hdec => by simp [inDecode, hguard, hdata, htrail] at hdec
    lastBit := fun heq => absurd heq htrail }

/-- A decode begins or goes on, the channel having been low at its edge poll. -/
theorem InvInTick.toDecode {s : State} (h : InvInTick s) {c : Ctl} (hc : c = .rxGuard ∨ c = .rxData ∨ c = .rxTrail)
    (hsend : s.ctl ≠ .txSeg) (hlow : s.currentLevel = false) (v : Byte) {k : Fin 8} (hk : c = .rxTrail → k = 7)
    (n : Nat) : InvInTick { s with ctl := c, rxShift := v, rxIdx := k, timer := n } := by
  have hother : c ≠ .txSeg := by rcases hc with rfl | rfl | rfl <;> decide
  have hflag : s.isTransmitting = false := Bool.eq_false_iff.mpr fun hf => hsend (h.flag.mp hf)
  exact { h with
    flag := by simp [hflag, hother]
    relay := fun heq => absurd heq hother
    sending := fun heq => absurd heq hother
    restsHigh := fun _ => h.restsHigh hsend
    edgeLow := fun _ => hlow
    lastBit := hk }

/-! ### The operations that start and end a frame -/

/-- R131: a frame start in a host burst, or in a relay burst that has the unit; what the node did before it does not
matter. -/
theorem InvInTick.startBurst {s : State} (h : InvInTick s) (b : Byte) {kind : BurstKind} {k : Nat}
    (hrelay : kind = .relay → k < s.msgBuf.length) :
    InvInTick (Machine.startFrame b { s with burstKind := kind, relayIdx := k }) :=
  { h with
    flag := by simp
    relay := fun _ => hrelay
    sending := fun _ => rfl
    restsHigh := fun hother => absurd rfl hother
    edgeLow := fun hdec => by simp [inDecode] at hdec
    lastBit := fun heq => by simp at heq }

/-! ### The completion and its actions -/

/-- R164: with no frame on the channel no relay is reading the buffer. -/
theorem InvInTick.opClear {s : State} (h : InvInTick s) (hctl : s.ctl ≠ .txSeg) : InvInTick (opClear s) :=
  { h with
    relay := fun heq => absurd heq hctl
    append := fun hbuf => absurd rfl hbuf
    noNul := fun _ => List.not_mem_nil }

/-- R180 corner case (e), for the bits as the statements count them. -/
theorem differingBits_le (ref rcv : List Byte) : differingBits ref rcv ≤ 8 * min ref.length rcv.length := by
  rw [← compareUnits_errs]
  exact compareUnits_errs_le ref rcv

/-- R162: the comparison adds a multiple of 8 bits, and no more errors than bits, to cleared or to kept totals. -/
theorem InvInTick.opActBer {s : State} (h : InvInTick s) (hctl : s.ctl ≠ .txSeg) : InvInTick (opActBer s) := by
  obtain ⟨bits, hbits⟩ : ∃ n, n = 8 * min s.cfg.ref.length s.msgBuf.length := ⟨_, rfl⟩
  obtain ⟨errs, herrs⟩ : ∃ n, n = differingBits s.cfg.ref s.msgBuf := ⟨_, rfl⟩
  obtain ⟨total, htotal⟩ : ∃ n, n = (if s.cfg.berPerMessage then 0 else s.totalBitsCompared) + bits := ⟨_, rfl⟩
  obtain ⟨errors, herrors⟩ : ∃ n, n = (if s.cfg.berPerMessage then 0 else s.bitErrors) + errs := ⟨_, rfl⟩
  have hrecord := berActionAccountsTheMessageAndClearsIt s bits errs total errors hbits herrs htotal herrors
  rw [Host.Outcome.next.inj hrecord]
  have hcommon : errs ≤ bits := by
    rw [hbits, herrs]
    exact differingBits_le s.cfg.ref s.msgBuf
  have hle : s.bitErrors ≤ s.totalBitsCompared := h.errors
  have hmod : s.totalBitsCompared % 8 = 0 := h.total
  have hle' : errors ≤ total := by
    rw [herrors, htotal]
    split <;> omega
  have hmod' : total % 8 = 0 := by
    rw [htotal]
    split <;> omega
  exact ((h.withTotals hle' hmod').opClear hctl).withEventsWires _ _

theorem InvInTick.opActRelay {s : State} (h : InvInTick s) : InvInTick (opActRelay s) := by
  cases hbuf : s.msgBuf with
  | nil => simpa [Machine.opActRelay, msgRead, hbuf] using h
  | cons u us =>
    rw [opActRelay_of_cons hbuf]
    exact h.startBurst u fun _ => by simp [hbuf]

theorem InvInTick.completeWith {s : State} (h : InvInTick s) (hctl : s.ctl ≠ .txSeg) (c : Cause) :
    InvInTick (completeWith c s) := by
  have hmsg := (h.withEventsWires s.events { s.wires with cause := c }).emit (.msg s.msgBuf c)
  unfold Machine.completeWith
  rcases opComplete_cases { s with wires := { s.wires with cause := c } } with ⟨-, heq⟩ | ⟨-, heq⟩ | ⟨-, heq⟩ <;> rw [heq]
  · exact hmsg.opClear hctl
  · exact hmsg.opActBer hctl
  · exact hmsg.opActRelay

theorem InvInTick.opTail {s : State} (h : InvInTick s) (hctl : s.ctl ≠ .txSeg) : InvInTick (opTail s) := by
  rcases opTail_cases s with ⟨heq, -⟩ | ⟨-, -, heq⟩ <;> rw [heq]
  · exact h
  · exact h.completeWith hctl .idle

/-! ### Delivery -/

/-- R86: under the terminator policy the tail is nothing. -/
theorem opTail_of_terminator {s : State} (hpolicy : s.cfg.policy = .terminator) : opTail s = s := by
  unfold opTail
  rw [hpolicy]

/-- R157: the unit is appended now, and it is no sentinel. -/
theorem InvInTick.appended {s : State} (h : InvInTick s) (hctl : s.ctl ≠ .txSeg)
    (hunit : isSentinel s.cfg s.wires.decData = false) : InvInTick (appended s) :=
  { h with
    relay := fun heq => absurd heq hctl
    append := fun _ => le_refl s.now
    noNul := fun hnul hmem => by
      rcases List.mem_append.mp hmem with hold | hnew
      · exact h.noNul hnul hold
      · have hzero : s.wires.decData = 0#8 := (List.mem_singleton.mp hnew).symm
        exact Bool.eq_false_iff.mp hunit ((isSentinel_iff _ _).mpr ⟨hnul, hzero⟩) }

/-- R115: under the terminator policy the delivery may complete and start a relay, and the tail is nothing; under the
idle policy the delivery only appends, and the tail may complete. -/
theorem InvInTick.deliverTail {s : State} (h : InvInTick s) (hctl : s.ctl ≠ .txSeg) :
    InvInTick (Machine.opTail (opDeliver s)) := by
  rcases opDeliver_cases s with ⟨-, heq⟩ | ⟨-, -, heq⟩ | ⟨-, hunit, heq⟩ <;> rw [heq]
  · exact h.opTail hctl
  · exact (h.emit _).opTail hctl
  · have happ := h.appended hctl hunit
    cases hpolicy : s.cfg.policy with
    | idleTimeout =>
      rw [opAppend_of_idleTimeout hpolicy]
      exact happ.opTail hctl
    | terminator =>
      have hcfg : (opAppend s).cfg.policy = .terminator := by rw [opAppend_cfg, hpolicy]
      rw [opTail_of_terminator hcfg, opAppend_of_terminator hpolicy]
      rcases opCompleteTerm_cases (Machine.appended s) with ⟨-, hterm⟩ | ⟨-, hterm⟩ <;> rw [hterm]
      · exact happ
      · exact happ.completeWith hctl .term

/-! ### The operations of a step -/

theorem InvInTick.opSample {s : State} (h : InvInTick s) : InvInTick (opSample s) := h.withEventsWires s.events _

theorem InvInTick.opEdge {s : State} (h : InvInTick s) (hctl : s.ctl = .poll) : InvInTick (opEdge s) := by
  have hsend : s.ctl ≠ .txSeg := by rw [hctl]; decide
  rcases opEdge_cases s with ⟨-, -, heq⟩ | ⟨-, heq⟩ <;> rw [heq]
  · have hlow := (h.opSample.withLevels hctl s.previousLevel false).emit .start
    unfold opDecStart
    split
    · exact hlow.toDecode (.inl rfl) hsend rfl _ (by decide) _
    · exact hlow.toDecode (.inr (.inl rfl)) hsend rfl _ (by decide) _
  · exact (h.opSample.withLevels hctl _ _).opTail hsend

/-- At a POLL tick the flag is clear (R148), so the arbiter's gate is open. -/
theorem InvInTick.edgeOrTail {s : State} (h : InvInTick s) (hctl : s.ctl = .poll) : InvInTick (edgeOrTail s) := by
  unfold Machine.edgeOrTail
  split
  · exact h.opTail (by rw [hctl]; decide)
  · exact h.opEdge hctl

/-- The end of a decode (R103): the node is idle again. -/
theorem InvInTick.endDecode {s : State} (h : InvInTick s) (hdec : inDecode s) : InvInTick (endDecode s) := by
  have hsend : s.ctl ≠ .txSeg := by rcases hdec with hc | hc | hc <;> rw [hc] <;> decide
  have hflag : s.isTransmitting = false := Bool.eq_false_iff.mpr fun hf => hsend (h.flag.mp hf)
  exact (h.toIdle (.inl rfl) (h.restsHigh hsend) hflag s.timer).withLevels rfl s.currentLevel s.currentLevel

theorem InvInTick.opDecGuard {s : State} (h : InvInTick s) (hctl : s.ctl = .rxGuard) : InvInTick (opDecGuard s) := by
  have hdec : inDecode s := .inl hctl
  rcases opDecGuard_cases s with ⟨-, heq⟩ | ⟨-, heq⟩ <;> rw [heq]
  · have hend := (h.opSample.emit .abort).endDecode hdec
    rw [deliverWith_abort]
    exact (hend.withEventsWires _ _).opTail (by simp)
  · exact h.opSample.toDecode (.inr (.inl rfl)) (by simp [hctl]) (h.edgeLow hdec) _ (fun hc => by cases hc) _

/-- R114: RX_TRAIL is entered with bit 7 sampled. -/
theorem InvInTick.opDecSample {s : State} (h : InvInTick s) (hctl : s.ctl = .rxData) : InvInTick (opDecSample s) := by
  have hsend : s.ctl ≠ .txSeg := by rw [hctl]; decide
  have hlow : s.currentLevel = false := h.edgeLow (.inr (.inl hctl))
  have hsampled := h.opSample.emit (.sample s.rxIdx (level s.cfg (intensityNow s)))
  by_cases hidx : s.rxIdx.val < 7
  · rw [opDecSample_of_lt hidx]
    exact hsampled.toDecode (.inr (.inl hctl)) hsend hlow _ (fun hc => by simp [hctl] at hc) _
  · have hlast : s.rxIdx = 7 := Fin.ext (by have := s.rxIdx.isLt; simp; omega)
    rw [opDecSample_of_last hidx]
    exact hsampled.toDecode (.inr (.inr rfl)) hsend hlow _ (fun _ => hlast) _

theorem InvInTick.opDecReturn {s : State} (h : InvInTick s) (hctl : s.ctl = .rxTrail) : InvInTick (opDecReturn s) := by
  have hend := (h.emit (.unit s.rxShift)).endDecode (.inr (.inr hctl))
  exact (hend.withEventsWires _ _).deliverTail (by simp)

/-- R132: the next segment's level goes on the channel with its number. -/
theorem InvInTick.opSegAdvance {s : State} (h : InvInTick s) (hctl : s.ctl = .txSeg) (hseg : s.txSeg.val < 9) :
    InvInTick (opSegAdvance s) := by
  have hnext : (s.txSeg + 1).val = s.txSeg.val + 1 := Fin.val_add_one_of_lt (Fin.lt_def.mpr hseg)
  exact { h with
    sending := fun _ => by simp [hnext]
    restsHigh := fun hother => absurd hctl hother }

/-- AFTER_BURST (R134) from a state that is idle again. -/
theorem InvInTick.afterBurst {s : State} (h : InvInTick { s with ctl := .poll }) : InvInTick (afterBurst s) := by
  rcases afterBurst_cases s with ⟨-, heq⟩ | ⟨-, heq⟩ <;> rw [heq]
  · exact h.opClear (by simp)
  · exact h.opTail (by simp)

/-- R133: the stop segment is high, so the node may rest there. -/
theorem InvInTick.opFrameEnd {s : State} (h : InvInTick s) (hctl : s.ctl = .txSeg) (hseg : s.txSeg.val = 9) :
    InvInTick (opFrameEnd s) := by
  rcases opFrameEnd_cases s with ⟨u, -, hu, heq⟩ | ⟨-, heq⟩ <;> rw [heq]
  · obtain ⟨hlt, -⟩ := List.getElem?_eq_some_iff.mp hu
    exact (h.emit .txDone).startBurst u (kind := s.burstKind) fun _ => hlt
  · have hhigh : s.txLevel = true := by
      have hsend : s.txLevel = segLevel s.txHold s.txSeg.val := h.sending hctl
      rw [hsend, hseg, segLevel_nine]
    rcases opBurstEnd_cases (Machine.emit .txDone { s with isTransmitting := false }) with ⟨-, hend⟩ | ⟨-, hend⟩ <;> rw [hend]
    · exact (h.emit .txDone).toIdle (.inr rfl) hhigh rfl _
    · exact InvInTick.afterBurst ((h.emit .txDone).toIdle (.inl rfl) hhigh rfl s.timer)

theorem InvInTick.opSettleEnd {s : State} (h : InvInTick s) (hctl : s.ctl = .settle) : InvInTick (opSettleEnd s) := by
  have hsend : s.ctl ≠ .txSeg := by rw [hctl]; decide
  have hflag : s.isTransmitting = false := Bool.eq_false_iff.mpr fun hf => hsend (h.flag.mp hf)
  exact InvInTick.afterBurst (h.toIdle (.inl rfl) (h.restsHigh hsend) hflag s.timer)

/-! ### The obligations -/

/-- Settles O18: the invariant is taken into the tick, through the operation that the sequencer state selects, and out
of the tick. -/
theorem everyStepKeepsTheNodeInvariant : Obligations.EveryStepKeepsTheNodeInvariant := by
  intro s t hinv hstep
  have h := InvInTick.of_nodeInv hinv
  rcases step_cases hstep with ⟨hctl, -, rfl⟩ | ⟨hctl, -, rfl⟩ | ⟨hctl, b, -, rfl⟩ | ⟨-, -, rfl⟩ | ⟨hctl, -, rfl⟩ |
    ⟨hctl, -, rfl⟩ | ⟨hctl, -, rfl⟩ | ⟨hctl, -, hseg, rfl⟩ | ⟨hctl, -, hseg, rfl⟩ | ⟨hctl, -, rfl⟩ <;>
    apply InvInTick.nodeInv_endTick
  · exact h.edgeOrTail hctl
  · exact (h.withTotals (Nat.le_refl 0) rfl).edgeOrTail hctl
  · exact h.startBurst b (kind := .host) (fun hkind => by cases hkind)
  · exact { h with }
  · exact h.opDecGuard hctl
  · exact h.opDecSample hctl
  · exact h.opDecReturn hctl
  · exact h.opSegAdvance hctl hseg
  · exact h.opFrameEnd hctl hseg
  · exact h.opSettleEnd hctl

/-- Settles O19: at reset nothing is sent, compared, buffered or decoded. -/
theorem resetMeetsTheNodeInvariant : Obligations.ResetMeetsTheNodeInvariant := fun c =>
  { flag := by simp [State.resetWith]
    errors := Nat.le_refl 0
    total := rfl
    relay := fun hctl => by cases hctl
    append := fun hbuf => absurd rfl hbuf
    noNul := fun _ => List.not_mem_nil
    sending := fun hctl => by cases hctl
    restsHigh := fun _ => rfl
    edgeLow := fun hdec => by simp [inDecode, State.resetWith] at hdec
    lastBit := fun hctl => by cases hctl
    wires := rfl }

end Sys2Proof.Machine

/-! Proofs of the family other, the outcome of a step (R81, R82, R200): which operation runs, and when a step is
refused. -/

namespace Sys2Proof.Machine

/-! ### The conditions on the configuration and the input -/

theorem cfg_legal_iff (c : Cfg) : c.legal = true ↔ 2 ≤ c.tBit ∧ 1 ≤ c.intW ∧ c.threshold < 2 ^ c.intW := by
  simp [Cfg.legal, and_assoc]

theorem inputLegal_iff (s : State) :
    inputLegal s = true ↔ ∀ i rest, s.inputs = i :: rest → i.intensity < 2 ^ s.cfg.intW := by
  unfold inputLegal
  cases s.inputs <;> simp

/-! ### The step as the selected operation -/

theorem step_of_illegal_cfg {s : State} (h : ¬ s.cfg.legal = true) : step s = .refused .illegalConfiguration :=
  if_neg h

theorem step_of_illegal_input {s : State} (hlegal : s.cfg.legal = true) (h : ¬ inputLegal s = true) :
    step s = .refused .intensityOutOfRange :=
  (if_pos hlegal).trans (if_neg h)

theorem step_of_legal {s : State} (hlegal : s.cfg.legal = true) (hin : inputLegal s = true) :
    step s = mapNext endTick (exec (select s) (beginTick s)) :=
  (if_pos hlegal).trans (if_pos hin)

/-- A step that is not refused, by the operation selected. -/
theorem step_of_select {s u : State} {i : Instr} (hlegal : s.cfg.legal = true) (hin : inputLegal s = true)
    (hsel : select s = i) (hexec : exec i (beginTick s) = .next u) : step s = .next (endTick u) := by
  rw [step_of_legal hlegal hin, hsel, hexec]
  rfl

theorem select_of_wait {s : State} (hctl : s.ctl ≠ .poll) (ht : 0 < s.timer) : select s = .wait := by
  rcases select_cases s with ⟨hpoll, -⟩ | ⟨-, -, hsel⟩ | ⟨hzero, -⟩
  · exact absurd hpoll hctl
  · exact hsel
  · omega

/-- R67: the selected operation answers a next state, but for a poll that reads the reserved command. -/
theorem exec_select_cases (s : State) :
    (s.ctl = .poll ∧ decodeCommand (cmdNow s) = .reserved ∧
      exec (select s) (beginTick s) = .refused .reservedCommand) ∨
    (¬ (s.ctl = .poll ∧ decodeCommand (cmdNow s) = .reserved) ∧ ∃ u, exec (select s) (beginTick s) = .next u) := by
  rcases select_cases s with ⟨hctl, hsel⟩ | ⟨hctl, ht, hsel⟩ | ⟨-, hdue⟩
  · rw [hsel]
    rcases execPoll_cases (beginTick s) with ⟨hcmd, h⟩ | ⟨hcmd, h⟩ | ⟨hcmd, h⟩ | ⟨b, hcmd, h⟩ <;>
      rw [cmdNow_beginTick] at hcmd
    · exact .inl ⟨hctl, hcmd, h⟩
    · exact .inr ⟨by simp [hcmd], _, h⟩
    · exact .inr ⟨by simp [hcmd], _, h⟩
    · exact .inr ⟨by simp [hcmd], _, h⟩
  · rw [hsel]
    exact .inr ⟨fun h => hctl h.1, opWait (beginTick s), if_pos ht⟩
  · rcases hdue with ⟨hctl, hsel⟩ | ⟨hctl, hsel⟩ | ⟨hctl, hsel⟩ | ⟨hctl, h9, hsel⟩ | ⟨hctl, -, hsel⟩ | ⟨hctl, hsel⟩ <;>
      refine .inr ⟨by simp [hctl], ?_⟩ <;> rw [hsel]
    · exact ⟨_, rfl⟩
    · exact ⟨_, rfl⟩
    · exact ⟨_, rfl⟩
    · exact ⟨opSegAdvance (beginTick s), if_pos h9⟩
    · exact ⟨_, rfl⟩
    · exact ⟨_, rfl⟩

/-! ### The obligations -/

/-- Settles O7: the table is `select`, and `mapNext` adds the end of the tick to a next state alone. -/
theorem stepRunsTheSelectedOperation : Obligations.StepRunsTheSelectedOperation := by
  intro s i hlegal hin htable
  have hsel : select s = i := by
    rcases htable with ⟨hctl, rfl⟩ | ⟨hctl, ht, rfl⟩ | ⟨ht, hdue⟩
    · exact select_of_ctl_poll hctl
    · exact select_of_wait hctl ht
    · rcases hdue with ⟨hctl, rfl⟩ | ⟨hctl, rfl⟩ | ⟨hctl, rfl⟩ | ⟨hctl, h9, rfl⟩ | ⟨hctl, h9, rfl⟩ | ⟨hctl, rfl⟩
      · simp [select, hctl, ht]
      · simp [select, hctl, ht]
      · simp [select, hctl, ht]
      · simp [select, hctl, ht, h9]
      · simp [select, hctl, ht, h9]
      · simp [select, hctl, ht]
  rw [step_of_legal hlegal hin, hsel]
  exact ⟨fun t ht => congrArg (mapNext endTick) ht, fun r hr => congrArg (mapNext endTick) hr⟩

/-- Settles O9: the poll of the begun tick, by its command (O8), with the end of the tick. -/
theorem stepAtPollRunsTheDecodedCommand : Obligations.StepAtPollRunsTheDecodedCommand := by
  intro s i hctl hlegal hin hdec hwf
  have hstep : step s = mapNext endTick (exec .poll (beginTick s)) := step_of_poll hlegal hin hctl
  obtain ⟨hsend, hother, -⟩ := pollRunsTheDecodedCommandThenTheEdgeDetector (beginTick s) hctl
  have hpoll (hi : i = .nop ∨ i = .berReset) : ∃ t, exec i (beginTick s) = .next t ∧ ∃ u,
      exec (if s.isTransmitting then .tail else .edge) t = .next u ∧ step s = .next (endTick u) := by
    obtain ⟨t, u, ht, hu, hrun⟩ := hother i hi hdec
    exact ⟨t, ht, u, hu, hstep.trans (congrArg (mapNext endTick) hrun)⟩
  obtain rfl : (decodeCommand (cmdNow s)).toInstr = i := Except.ok.inj hdec
  cases hcmd : decodeCommand (cmdNow s) with
  | nop =>
    rw [hcmd] at hpoll
    obtain ⟨t, ht, hrest⟩ := hpoll (.inl rfl)
    exact ⟨t, ht, nofun, fun _ => hrest⟩
  | berReset =>
    rw [hcmd] at hpoll
    obtain ⟨t, ht, hrest⟩ := hpoll (.inr rfl)
    exact ⟨t, ht, nofun, fun _ => hrest⟩
  | send b =>
    rw [hcmd] at hdec
    obtain ⟨t, ht, hrun⟩ := hsend b hdec
    exact ⟨t, ht, fun _ => hstep.trans (congrArg (mapNext endTick) hrun), fun hne => absurd rfl (hne b)⟩
  | reserved =>
    rw [hcmd] at hwf
    cases hwf

/-- Settles O10: the two checks of the step are the first two conditions, and the selected operation answers next unless
the third fails. -/
theorem stepAnswersNextUnlessTheSpecRefuses : Obligations.StepAnswersNextUnlessTheSpecRefuses := by
  intro s
  have hreserved : decode (.cmd (cmdNow s)) = .ok .cmdReserved ↔ decodeCommand (cmdNow s) = .reserved :=
    decode_cmd_eq_ok_toInstr_iff (c := .reserved)
  rw [← cfg_legal_iff, ← inputLegal_iff, hreserved]
  constructor
  · rintro ⟨t, hnext⟩
    obtain ⟨hlegal, hin, u, hu, -⟩ := step_eq_next hnext
    refine ⟨hlegal, hin, ?_⟩
    rcases exec_select_cases s with ⟨-, -, h⟩ | ⟨hcmd, -⟩
    · rw [h] at hu
      cases hu
    · exact hcmd
  · rintro ⟨hlegal, hin, hcmd⟩
    rcases exec_select_cases s with ⟨hctl, hres, -⟩ | ⟨-, u, hu⟩
    · exact absurd ⟨hctl, hres⟩ hcmd
    · exact ⟨endTick u, by rw [step_of_legal hlegal hin, hu]; rfl⟩

/-- Settles O11: each of the step's three ways to stop is a refusal by its own name. -/
theorem stepNeverFaultsAndRefusesOnlyByTheSpec : Obligations.StepNeverFaultsAndRefusesOnlyByTheSpec := by
  intro s
  by_cases hlegal : s.cfg.legal = true
  · by_cases hin : inputLegal s = true
    · rw [step_of_legal hlegal hin]
      rcases exec_select_cases s with ⟨-, -, h⟩ | ⟨-, u, h⟩ <;> rw [h] <;> simp [mapNext]
    · simp [step_of_illegal_input hlegal hin]
  · simp [step_of_illegal_cfg hlegal]

end Sys2Proof.Machine

/-! Proofs of the family other, what every operation leaves alone: the time (R17), the emitted level outside frames (R136)
and the message buffer, which is appended to or released (R41). -/

namespace Sys2Proof.Machine

/-! ### What an operation may write -/

/-- From `s` to `t` no time passes and events are only added; the emitted level and the held unit stand, unless a frame
starts; and the buffer, with the unit `u` added if there is one, stands or is released. -/
structure Proceeds (u : Option Byte) (s t : State) : Prop where
  now : t.now = s.now
  events : s.events <+: t.events
  level : (t.txLevel = s.txLevel ∧ t.txHold = s.txHold) ∨
    (Event.txStart t.txHold ∈ t.events ∧ t.txLevel = false)
  buffer : t.msgBuf = s.msgBuf ++ u.toList ∨ t.msgBuf = []

/-- An update of the other registers. -/
theorem Proceeds.of_eq {s t : State} (hnow : t.now = s.now) (hev : t.events = s.events)
    (hlevel : t.txLevel = s.txLevel) (hhold : t.txHold = s.txHold) (hbuf : t.msgBuf = s.msgBuf) :
    Proceeds none s t where
  now := hnow
  events := by rw [hev]
  level := .inl ⟨hlevel, hhold⟩
  buffer := .inl (by simp [hbuf])

theorem Proceeds.refl (s : State) : Proceeds none s s := .of_eq rfl rfl rfl rfl rfl

theorem Proceeds.trans {u : Option Byte} {s t r : State} (h : Proceeds u s t) (h' : Proceeds none t r) :
    Proceeds u s r where
  now := h'.now.trans h.now
  events := h.events.trans h'.events
  level := by
    rcases h'.level with ⟨hlevel, hhold⟩ | hstart
    · rw [hlevel, hhold]
      exact h.level.imp_right fun ⟨hmem, hlow⟩ => ⟨h'.events.subset hmem, hlow⟩
    · exact .inr hstart
  buffer := by
    rcases h'.buffer with heq | hnil
    · rw [heq, Option.toList_none, List.append_nil]
      exact h.buffer
    · exact .inr hnil

theorem Proceeds.emit {u : Option Byte} {s t : State} (h : Proceeds u s t) (e : Event) : Proceeds u s (emit e t) where
  now := h.now
  events := h.events.trans (List.prefix_append t.events [e])
  level := h.level.imp_right fun ⟨hmem, hlow⟩ => ⟨List.mem_append_left [e] hmem, hlow⟩
  buffer := h.buffer

/-! ### The frame start, the completion and its actions -/

/-- R131: the new level comes with the TXSTART of the unit held. -/
theorem startFrame_proceeds (b : Byte) (s : State) : Proceeds none s (startFrame b s) where
  now := rfl
  events := List.prefix_append s.events _
  level := .inr ⟨List.mem_append_right s.events (List.mem_singleton_self _), rfl⟩
  buffer := .inl (by simp)

theorem opClear_proceeds (s : State) : Proceeds none s (opClear s) where
  now := rfl
  events := List.prefix_append s.events _
  level := .inl ⟨rfl, rfl⟩
  buffer := .inr rfl

theorem opAccumulate_proceeds (s : State) : Proceeds none s (opAccumulate s) where
  now := rfl
  events := List.prefix_append s.events _
  level := .inl ⟨rfl, rfl⟩
  buffer := .inl (by simp)

theorem opActBer_proceeds (s : State) : Proceeds none s (opActBer s) := by
  rw [opActBer_eq]
  generalize hq : opCompare _ = q
  have htotals : Proceeds none s q := by
    subst hq
    exact .of_eq rfl rfl rfl rfl rfl
  exact (htotals.trans (opAccumulate_proceeds q)).trans (opClear_proceeds _)

theorem opActRelay_proceeds (s : State) : Proceeds none s (opActRelay s) := by
  unfold opActRelay
  cases msgRead s 0 with
  | none => exact .refl s
  | some u =>
    have hburst : Proceeds none s { s with relayIdx := 0, burstKind := .relay } := .of_eq rfl rfl rfl rfl rfl
    exact hburst.trans (startFrame_proceeds u _)

theorem opComplete_proceeds (s : State) : Proceeds none s (opComplete s) := by
  have hmsg := (Proceeds.refl s).emit (.msg s.msgBuf s.wires.cause)
  rcases opComplete_cases s with ⟨-, h⟩ | ⟨-, h⟩ | ⟨-, h⟩ <;> rw [h]
  · exact hmsg.trans (opClear_proceeds _)
  · exact hmsg.trans (opActBer_proceeds _)
  · exact hmsg.trans (opActRelay_proceeds _)

theorem completeWith_proceeds (c : Cause) (s : State) : Proceeds none s (completeWith c s) :=
  have hcause : Proceeds none s { s with wires := { s.wires with cause := c } } := .of_eq rfl rfl rfl rfl rfl
  hcause.trans (opComplete_proceeds _)

theorem opCompleteTerm_proceeds (s : State) : Proceeds none s (opCompleteTerm s) := by
  rcases opCompleteTerm_cases s with ⟨-, h⟩ | ⟨-, h⟩ <;> rw [h]
  · exact .refl s
  · exact completeWith_proceeds .term s

theorem opCompleteIdle_proceeds (s : State) : Proceeds none s (opCompleteIdle s) := by
  rcases opCompleteIdle_cases s with ⟨-, h⟩ | ⟨-, h⟩ <;> rw [h]
  · exact .refl s
  · exact completeWith_proceeds .idle s

theorem opTail_proceeds (s : State) : Proceeds none s (opTail s) := by
  rcases opTail_cases s with ⟨h, -⟩ | ⟨-, -, h⟩ <;> rw [h]
  · exact .refl s
  · exact completeWith_proceeds .idle s

/-! ### Delivery, the only operation that appends -/

theorem appended_proceeds (s : State) : Proceeds (some s.wires.decData) s (appended s) where
  now := rfl
  events := List.prefix_append s.events _
  level := .inl ⟨rfl, rfl⟩
  buffer := .inl rfl

theorem opAppend_proceeds (s : State) : Proceeds (some s.wires.decData) s (opAppend s) := by
  cases hpolicy : s.cfg.policy with
  | idleTimeout =>
    rw [opAppend_of_idleTimeout hpolicy]
    exact appended_proceeds s
  | terminator =>
    rw [opAppend_of_terminator hpolicy]
    exact (appended_proceeds s).trans (opCompleteTerm_proceeds _)

theorem opDeliver_proceeds (s : State) : ∃ u, Proceeds u s (opDeliver s) := by
  rcases opDeliver_cases s with ⟨-, h⟩ | ⟨-, -, h⟩ | ⟨-, -, h⟩ <;> rw [h]
  · exact ⟨none, .refl s⟩
  · exact ⟨none, (Proceeds.refl s).emit _⟩
  · exact ⟨_, opAppend_proceeds s⟩

/-- The end of a decode (R115): what came before the delivery has neither appended nor sent. -/
theorem opTail_opDeliver_proceeds {s q : State} (hnow : q.now = s.now) (hev : s.events <+: q.events)
    (hlevel : q.txLevel = s.txLevel) (hhold : q.txHold = s.txHold) (hbuf : q.msgBuf = s.msgBuf) :
    ∃ u, Proceeds u s (opTail (opDeliver q)) := by
  obtain ⟨u, hu⟩ := opDeliver_proceeds q
  have h := hu.trans (opTail_proceeds _)
  exact ⟨u, h.now.trans hnow, hev.trans h.events, by rw [← hlevel, ← hhold]; exact h.level,
    by rw [← hbuf]; exact h.buffer⟩

/-! ### The transmitter, the receiver and the sequencer -/

theorem afterBurst_proceeds (s : State) : Proceeds none s (afterBurst s) := by
  have hpoll : Proceeds none s { s with ctl := .poll } := .of_eq rfl rfl rfl rfl rfl
  rcases afterBurst_cases s with ⟨-, h⟩ | ⟨-, h⟩ <;> rw [h]
  · exact hpoll.trans (opClear_proceeds _)
  · exact hpoll.trans (opTail_proceeds _)

theorem opBurstEnd_proceeds (s : State) : Proceeds none s (opBurstEnd s) := by
  rcases opBurstEnd_cases s with ⟨-, h⟩ | ⟨-, h⟩ <;> rw [h]
  · exact .of_eq rfl rfl rfl rfl rfl
  · exact afterBurst_proceeds s

/-- R133: a frame's end reports it, whatever follows. -/
theorem opFrameEnd_proceeds (s : State) :
    Proceeds none (emit .txDone s) (opFrameEnd s) := by
  have hdone (k : Nat) :
      Proceeds none (emit .txDone s) (emit .txDone { s with isTransmitting := false, relayIdx := k }) :=
    .of_eq rfl rfl rfl rfl rfl
  rcases opFrameEnd_cases s with ⟨u, -, -, h⟩ | ⟨-, h⟩ <;> rw [h]
  · exact (hdone (s.relayIdx + 1)).trans (startFrame_proceeds u _)
  · exact (hdone s.relayIdx).trans (opBurstEnd_proceeds _)

theorem opDecStart_proceeds (s : State) : Proceeds none s (opDecStart s) := by
  unfold opDecStart
  split
  · exact .of_eq rfl rfl rfl rfl rfl
  · exact .of_eq rfl rfl rfl rfl rfl

theorem opEdge_proceeds (s : State) : Proceeds none s (opEdge s) := by
  rcases opEdge_cases s with ⟨-, -, h⟩ | ⟨-, h⟩ <;> rw [h]
  · have hsample : Proceeds none s { opSample s with currentLevel := false } := .of_eq rfl rfl rfl rfl rfl
    exact (hsample.emit .start).trans (opDecStart_proceeds _)
  · have hsample : Proceeds none s { opSample s with
        currentLevel := level s.cfg (intensityNow s), previousLevel := level s.cfg (intensityNow s) } :=
      .of_eq rfl rfl rfl rfl rfl
    exact hsample.trans (opTail_proceeds _)

theorem opDecGuard_proceeds (s : State) : Proceeds none s (opDecGuard s) := by
  rcases opDecGuard_cases s with ⟨-, h⟩ | ⟨-, h⟩ <;> rw [h]
  · rw [deliverWith_abort]
    have hsample : Proceeds none s (opSample s) := .of_eq rfl rfl rfl rfl rfl
    refine (hsample.emit .abort).trans (Proceeds.trans ?_ (opTail_proceeds _))
    exact .of_eq rfl rfl rfl rfl rfl
  · exact .of_eq rfl rfl rfl rfl rfl

theorem opDecSample_proceeds (s : State) : Proceeds none s (opDecSample s) := by
  have hsampled := (Proceeds.refl s).emit (.sample s.rxIdx (level s.cfg (intensityNow s)))
  by_cases hidx : s.rxIdx.val < 7
  · rw [opDecSample_of_lt hidx]
    exact hsampled.trans (.of_eq rfl rfl rfl rfl rfl)
  · rw [opDecSample_of_last hidx]
    exact hsampled.trans (.of_eq rfl rfl rfl rfl rfl)

theorem opDecReturn_proceeds (s : State) : ∃ u, Proceeds u s (opDecReturn s) :=
  opTail_opDeliver_proceeds rfl (List.prefix_append s.events _) rfl rfl rfl

theorem edgeOrTail_proceeds (s : State) : Proceeds none s (edgeOrTail s) := by
  unfold edgeOrTail
  split
  · exact opTail_proceeds s
  · exact opEdge_proceeds s

theorem opBerClear_proceeds (s : State) : Proceeds none s (opBerClear s) := .of_eq rfl rfl rfl rfl rfl

theorem opSend_proceeds (b : Byte) (s : State) : Proceeds none s (opSend b s) :=
  have hburst : Proceeds none s { s with burstKind := .host } := .of_eq rfl rfl rfl rfl rfl
  hburst.trans (startFrame_proceeds b _)

theorem execPoll_proceeds {s t : State} (h : execPoll s = .next t) : Proceeds none s t := by
  rcases execPoll_cases s with ⟨-, heq⟩ | ⟨-, heq⟩ | ⟨-, heq⟩ | ⟨b, -, heq⟩ <;> rw [heq] at h <;> cases h
  · exact (opBerClear_proceeds s).trans (edgeOrTail_proceeds _)
  · exact edgeOrTail_proceeds s
  · exact opSend_proceeds b s

/-! ### Every operation -/

theorem eq_of_next_eq {s t : State} (h : (.next s : Host.Outcome State Fault Refusal) = .next t) : t = s :=
  (Host.Outcome.next.inj h).symm

/-- A guarded operation that answers next ran one of its two branches. -/
theorem Proceeds.of_ite {s t : State} {p : Prop} [Decidable p] {o o' : Host.Outcome State Fault Refusal}
    (h : (if p then o else o') = .next t) (hthen : o = .next t → Proceeds none s t)
    (helse : o' = .next t → Proceeds none s t) : Proceeds none s t := by
  split at h
  · exact hthen h
  · exact helse h

/-- Every operation but SEG_ADVANCE, which alone changes the level of a frame in progress. -/
theorem exec_proceeds {i : Instr} {s t : State} (hi : i ≠ .segAdvance) (h : exec i s = .next t) :
    ∃ u, Proceeds u s t := by
  have hsame {t' : State} (heq : (.next t' : Host.Outcome State Fault Refusal) = .next t)
      (hp : Proceeds none s t') : Proceeds none s t := Host.Outcome.next.inj heq ▸ hp
  have hself : Proceeds none s s := .refl s
  cases i with
  | segAdvance => exact absurd rfl hi
  | append => exact eq_of_next_eq h ▸ ⟨_, opAppend_proceeds s⟩
  | deliver => exact eq_of_next_eq h ▸ opDeliver_proceeds s
  | decReturn => exact eq_of_next_eq h ▸ opDecReturn_proceeds s
  | nop => exact ⟨none, hsame h hself⟩
  | send b => exact ⟨none, .of_ite h (hsame · (opSend_proceeds b s)) (hsame · hself)⟩
  | berReset => exact ⟨none, .of_ite h (hsame · (opBerClear_proceeds s)) (hsame · hself)⟩
  | cmdReserved => exact ⟨none, .of_ite h nofun (hsame · hself)⟩
  | frame b => exact ⟨none, hsame h (.of_eq rfl rfl rfl rfl rfl)⟩
  | idle => exact ⟨none, hsame h (.of_eq rfl rfl rfl rfl rfl)⟩
  | poll => exact ⟨none, execPoll_proceeds h⟩
  | tail => exact ⟨none, hsame h (opTail_proceeds s)⟩
  | wait => exact ⟨none, .of_ite h (hsame · (.of_eq rfl rfl rfl rfl rfl)) nofun⟩
  | sample => exact ⟨none, hsame h (.of_eq rfl rfl rfl rfl rfl)⟩
  | edge => exact ⟨none, hsame h (opEdge_proceeds s)⟩
  | decStart => exact ⟨none, hsame h (opDecStart_proceeds s)⟩
  | decGuard => exact ⟨none, hsame h (opDecGuard_proceeds s)⟩
  | decSample => exact ⟨none, hsame h (opDecSample_proceeds s)⟩
  | frameStart => exact ⟨none, hsame h (startFrame_proceeds s.wires.frameUnit s)⟩
  | frameEnd => exact ⟨none, hsame h (((Proceeds.refl s).emit .txDone).trans (opFrameEnd_proceeds s))⟩
  | burstEnd => exact ⟨none, hsame h (opBurstEnd_proceeds s)⟩
  | settleEnd => exact ⟨none, hsame h (afterBurst_proceeds s)⟩
  | completeTerm => exact ⟨none, .of_ite h nofun (hsame · (opCompleteTerm_proceeds s))⟩
  | completeIdle => exact ⟨none, hsame h (opCompleteIdle_proceeds s)⟩
  | complete => exact ⟨none, .of_ite h nofun (hsame · (opComplete_proceeds s))⟩
  | actNone => exact ⟨none, hsame h (opClear_proceeds s)⟩
  | actBer => exact ⟨none, hsame h (opActBer_proceeds s)⟩
  | actRelay => exact ⟨none, .of_ite h nofun (hsame · (opActRelay_proceeds s))⟩
  | clear => exact ⟨none, hsame h (opClear_proceeds s)⟩
  | compare => exact ⟨none, hsame h (.of_eq rfl rfl rfl rfl rfl)⟩
  | accumulate => exact ⟨none, hsame h (opAccumulate_proceeds s)⟩
  | berClear => exact ⟨none, hsame h (opBerClear_proceeds s)⟩
  | berRatio => exact ⟨none, hsame h (.of_eq rfl rfl rfl rfl rfl)⟩

theorem exec_segAdvance_eq_next {s t : State} (h : exec .segAdvance s = .next t) : t = opSegAdvance s := by
  rw [exec, execSegAdvance] at h
  split at h
  · exact eq_of_next_eq h
  · cases h

/-- A step advances a segment or proceeds, and then the tick ends. -/
theorem step_proceeds {s t : State} (h : step s = .next t) :
    (s.ctl = .txSeg ∧ s.timer = 0 ∧ s.txSeg.val < 9 ∧ t = endTick (opSegAdvance (beginTick s))) ∨
    ∃ v u, Proceeds v (beginTick s) u ∧ t = endTick u := by
  obtain ⟨-, -, u, hu, rfl⟩ := step_eq_next h
  by_cases hsel : select s = .segAdvance
  · rw [hsel] at hu
    rcases select_cases s with ⟨-, hother⟩ | ⟨-, -, hother⟩ | ⟨ht, hdue⟩
    · simp [hsel] at hother
    · simp [hsel] at hother
    · simp only [hsel, reduceCtorEq, and_false, false_or, or_false, and_true] at hdue
      exact .inl ⟨hdue.1, ht, hdue.2, congrArg endTick (exec_segAdvance_eq_next hu)⟩
  · obtain ⟨v, hv⟩ := exec_proceeds hsel hu
    exact .inr ⟨v, u, hv, rfl⟩

theorem step_now {s t : State} (h : step s = .next t) : t.now = s.now + 1 := by
  rcases step_proceeds h with ⟨-, -, -, rfl⟩ | ⟨v, u, hu, rfl⟩
  · rfl
  · exact congrArg (· + 1) hu.now

/-! ### Runs -/

/-- The first step of a run, for any machine. -/
theorem coreRun_succ_eq_next_iff (M : Host.Core) {n : Nat} {s t : M.State} :
    M.run (n + 1) s = .next t ↔ ∃ u, M.step s = .next u ∧ M.run n u = .next t := by
  rw [Host.Core.run]
  cases M.step s <;> simp

theorem run_succ_eq_next_iff {n : Nat} {s t : State} :
    core.run (n + 1) s = .next t ↔ ∃ u, step s = .next u ∧ core.run n u = .next t :=
  coreRun_succ_eq_next_iff core

theorem run_now {n : Nat} {s t : State} (h : core.run n s = .next t) : t.now = s.now + n := by
  induction n generalizing s with
  | zero => exact congrArg State.now (eq_of_next_eq h)
  | succ n ih =>
    obtain ⟨u, hu, ht⟩ := run_succ_eq_next_iff.mp h
    rw [ih ht, step_now hu]
    omega

/-! ### The obligations -/

/-- Settles O12: the step lemma, and by induction every run from a state with `now` at 0. -/
theorem nowCountsTheTicksSinceReset : Obligations.NowCountsTheTicksSinceReset :=
  ⟨fun _ _ => step_now, fun _ _ n _ h => (run_now h).trans (Nat.zero_add n)⟩

/-- Settles O22: but for SEG_ADVANCE the level stands or a frame starts. -/
theorem emittedLevelChangesOnlyInFrames : Obligations.EmittedLevelChangesOnlyInFrames := by
  intro s t h hchange
  rcases step_proceeds h with ⟨hctl, ht, hseg, -⟩ | ⟨v, u, hu, rfl⟩
  · exact .inr ⟨hctl, ht, hseg⟩
  · rcases hu.level with ⟨hsame, -⟩ | ⟨hmem, hlow⟩
    · exact absurd hsame hchange
    · exact .inl ⟨u.txHold, hmem, rfl, hlow⟩

/-- Settles O23: `Proceeds` names the one unit that an operation may add. -/
theorem messageBufferIsOnlyAppendedToOrCleared : Obligations.MessageBufferIsOnlyAppendedToOrCleared := by
  intro i s t h
  by_cases hi : i = .segAdvance
  · subst hi
    rw [exec_segAdvance_eq_next h]
    exact .inl rfl
  · obtain ⟨u, hu⟩ := exec_proceeds hi h
    rcases hu.buffer with hbuf | hnil
    · cases u with
      | none => exact .inl (hbuf.trans (List.append_nil _))
      | some u => exact .inr (.inr ⟨u, hbuf⟩)
    · exact .inr (.inl hnil)

end Sys2Proof.Machine

/-! Proofs of the family other, completions in a step: one at most (R167), what lowers a running total (R181), and the
transfers of control (R88) with what a decode leaves behind (R103). -/

namespace Sys2Proof.Machine

/-! ### What comes before the completion

An operation of a step first does something that completes no message and changes no total, and then completes one
message at most. -/

/-- `q` is `s` before any completion: no MSG event is new and the totals stand. -/
structure Prepares (s q : State) : Prop where
  cfg : q.cfg = s.cfg
  events : ∀ e ∈ q.events, isMsg e = true → e ∈ s.events
  total : q.totalBitsCompared = s.totalBitsCompared
  errors : q.bitErrors = s.bitErrors

/-- An update of the other registers. -/
theorem Prepares.of_eq {s q : State} (hcfg : q.cfg = s.cfg) (hev : q.events = s.events)
    (htotal : q.totalBitsCompared = s.totalBitsCompared) (herr : q.bitErrors = s.bitErrors) : Prepares s q :=
  ⟨hcfg, fun _ he _ => hev ▸ he, htotal, herr⟩

/-- An event of another kind emitted after it. -/
theorem Prepares.emit {s q : State} (h : Prepares s q) {e : Event} (he : isMsg e = false) : Prepares s (emit e q) where
  cfg := h.cfg
  events := fun e' hmem hmsg => by
    rcases List.mem_append.mp hmem with hold | hnew
    · exact h.events e' hold hmsg
    · rw [List.mem_singleton.mp hnew, he] at hmsg
      cases hmsg
  total := h.total
  errors := h.errors

theorem Prepares.refl (s : State) : Prepares s s := .of_eq rfl rfl rfl rfl

theorem Prepares.trans {s q r : State} (h : Prepares s q) (h' : Prepares q r) : Prepares s r where
  cfg := h'.cfg.trans h.cfg
  events := fun e hmem hmsg => h.events e (h'.events e hmem hmsg) hmsg
  total := h'.total.trans h.total
  errors := h'.errors.trans h.errors

/-- From `s` to `t` one message at most was completed. -/
def CompletesOnce (s t : State) : Prop := ∃ q, Prepares s q ∧ Completes q t

/-- An operation with no completion in it. -/
theorem Prepares.completesOnce {s t : State} (h : Prepares s t) : CompletesOnce s t := ⟨t, h, .refl t⟩

theorem CompletesOnce.of_prepares {s q t : State} (h : Prepares s q) (h' : CompletesOnce q t) : CompletesOnce s t := by
  obtain ⟨r, hr, ht⟩ := h'
  exact ⟨r, h.trans hr, ht⟩

/-! ### The operations of a step -/

theorem startFrame_prepares (b : Byte) (s : State) : Prepares s (startFrame b s) :=
  have hsent : Prepares s { s with
      txHold := b, isTransmitting := true, txSeg := 0, txLevel := false, timer := s.cfg.tBit - 1, ctl := .txSeg,
      wires := { s.wires with frameUnit := b } } := .of_eq rfl rfl rfl rfl
  hsent.emit rfl

theorem opTail_completesOnce (s : State) : CompletesOnce s (opTail s) := ⟨s, .refl s, (opTail_completes s).1⟩

theorem opDecStart_prepares (s : State) : Prepares s (opDecStart s) := by
  unfold opDecStart
  split
  · exact .of_eq rfl rfl rfl rfl
  · exact .of_eq rfl rfl rfl rfl

theorem opEdge_completesOnce (s : State) : CompletesOnce s (opEdge s) := by
  rcases opEdge_cases s with ⟨-, -, h⟩ | ⟨-, h⟩ <;> rw [h]
  · have hsample : Prepares s { opSample s with currentLevel := false } := .of_eq rfl rfl rfl rfl
    exact ((hsample.emit rfl).trans (opDecStart_prepares _)).completesOnce
  · refine .of_prepares ?_ (opTail_completesOnce _)
    exact .of_eq rfl rfl rfl rfl

theorem edgeOrTail_completesOnce (s : State) : CompletesOnce s (edgeOrTail s) := by
  unfold edgeOrTail
  split
  · exact opTail_completesOnce s
  · exact opEdge_completesOnce s

theorem opDecGuard_completesOnce (s : State) : CompletesOnce s (opDecGuard s) := by
  rcases opDecGuard_cases s with ⟨-, h⟩ | ⟨-, h⟩ <;> rw [h]
  · have hsample : Prepares s (opSample s) := .of_eq rfl rfl rfl rfl
    rw [deliverWith_abort]
    refine .of_prepares ((hsample.emit (e := .abort) rfl).trans ?_) (opTail_completesOnce _)
    exact .of_eq rfl rfl rfl rfl
  · exact Prepares.completesOnce (.of_eq rfl rfl rfl rfl)

theorem opDecSample_completesOnce (s : State) : CompletesOnce s (opDecSample s) := by
  have hsampled := (Prepares.refl s).emit (e := .sample s.rxIdx (level s.cfg (intensityNow s))) rfl
  apply Prepares.completesOnce
  by_cases hidx : s.rxIdx.val < 7
  · rw [opDecSample_of_lt hidx]
    exact hsampled.trans (.of_eq rfl rfl rfl rfl)
  · rw [opDecSample_of_last hidx]
    exact hsampled.trans (.of_eq rfl rfl rfl rfl)

/-- The state in which DEC_RETURN delivers the unit (R115). -/
def returned (s : State) : State :=
  { s with previousLevel := s.currentLevel, ctl := .poll, events := s.events ++ [.unit s.rxShift],
           wires := { s.wires with decAbort := false, decData := s.rxShift } }

theorem opDecReturn_eq (s : State) : opDecReturn s = opTail (opDeliver (returned s)) := rfl

theorem opDecReturn_completesOnce (s : State) : CompletesOnce s (opDecReturn s) := by
  have hunit := (Prepares.refl s).emit (e := .unit s.rxShift) rfl
  exact ⟨returned s, hunit.trans (.of_eq rfl rfl rfl rfl), deliver_tail_completes (returned s)⟩

theorem afterBurst_completesOnce (s : State) : CompletesOnce s (afterBurst s) := by
  have hpoll : Prepares s { s with ctl := .poll } := .of_eq rfl rfl rfl rfl
  rcases afterBurst_cases s with ⟨-, h⟩ | ⟨-, h⟩ <;> rw [h]
  · have hclear : Prepares s { s with ctl := .poll, msgBuf := [] } := .of_eq rfl rfl rfl rfl
    exact (hclear.emit rfl).completesOnce
  · exact .of_prepares hpoll (opTail_completesOnce _)

theorem opFrameEnd_completesOnce (s : State) : CompletesOnce s (opFrameEnd s) := by
  have hdone (k : Nat) : Prepares s (emit .txDone { s with isTransmitting := false, relayIdx := k }) :=
    have hflag : Prepares s { s with isTransmitting := false, relayIdx := k } := .of_eq rfl rfl rfl rfl
    hflag.emit rfl
  rcases opFrameEnd_cases s with ⟨u, -, -, h⟩ | ⟨-, h⟩ <;> rw [h]
  · exact ((hdone (s.relayIdx + 1)).trans (startFrame_prepares u _)).completesOnce
  · refine .of_prepares (hdone s.relayIdx) ?_
    rcases opBurstEnd_cases (emit .txDone { s with isTransmitting := false }) with ⟨-, hend⟩ | ⟨-, hend⟩ <;> rw [hend]
    · exact Prepares.completesOnce (.of_eq rfl rfl rfl rfl)
    · exact afterBurst_completesOnce _

/-! ### The step -/

/-- A step completes one message at most, from the begun tick or from its totals cleared by a BER_RESET (R84). -/
theorem step_completesOnce {s t : State} (h : step s = .next t) :
    ∃ q u, (q = beginTick s ∨
        (q = opBerClear (beginTick s) ∧ s.ctl = .poll ∧ decodeCommand (cmdNow s) = .berReset)) ∧
      CompletesOnce q u ∧ t = endTick u := by
  rcases step_cases h with ⟨-, -, rfl⟩ | ⟨hctl, hcmd, rfl⟩ | ⟨-, b, -, rfl⟩ | ⟨-, -, rfl⟩ | ⟨-, -, rfl⟩ | ⟨-, -, rfl⟩ |
    ⟨-, -, rfl⟩ | ⟨-, -, -, rfl⟩ | ⟨-, -, -, rfl⟩ | ⟨-, -, rfl⟩
  · exact ⟨_, _, .inl rfl, edgeOrTail_completesOnce _, rfl⟩
  · exact ⟨_, _, .inr ⟨rfl, hctl, hcmd⟩, edgeOrTail_completesOnce _, rfl⟩
  · have hburst : Prepares (beginTick s) { beginTick s with burstKind := .host } := .of_eq rfl rfl rfl rfl
    exact ⟨_, _, .inl rfl, (hburst.trans (startFrame_prepares b _)).completesOnce, rfl⟩
  · exact ⟨_, opWait (beginTick s), .inl rfl, Prepares.completesOnce (.of_eq rfl rfl rfl rfl), rfl⟩
  · exact ⟨_, _, .inl rfl, opDecGuard_completesOnce _, rfl⟩
  · exact ⟨_, _, .inl rfl, opDecSample_completesOnce _, rfl⟩
  · exact ⟨_, _, .inl rfl, opDecReturn_completesOnce _, rfl⟩
  · exact ⟨_, opSegAdvance (beginTick s), .inl rfl, Prepares.completesOnce (.of_eq rfl rfl rfl rfl), rfl⟩
  · exact ⟨_, _, .inl rfl, opFrameEnd_completesOnce _, rfl⟩
  · exact ⟨_, _, .inl rfl, afterBurst_completesOnce _, rfl⟩

/-! ### Control after a tail, a delivery and a poll (R88) -/

/-- A relay started by the tail: its completion is a MSG event of the same step, under the idle policy (R163). -/
def TailRelays (c : Cfg) (t : State) : Prop :=
  t.ctl = .txSeg ∧ (∃ e ∈ t.events, isMsg e = true) ∧ c.policy = .idleTimeout ∧ c.action = .relay

theorem opTail_ctl (s : State) : (opTail s).ctl = s.ctl ∨ TailRelays s.cfg (opTail s) := by
  obtain ⟨hcompletes, hpolicy⟩ := opTail_completes s
  obtain ⟨new, hev, -, -, -, hctl, -⟩ := hcompletes.events
  rcases hpolicy with hself | hidle
  · exact .inl (congrArg State.ctl hself)
  · rcases hctl with hsame | ⟨hsend, hrelay, e, he, hmsg⟩
    · exact .inl hsame
    · exact .inr ⟨hsend, ⟨e, hev ▸ List.mem_append_right _ he, hmsg⟩, hidle, hrelay⟩

/-- A tail emits no START. -/
theorem start_mem_opTail_iff (s : State) : Event.start ∈ (opTail s).events ↔ Event.start ∈ s.events := by
  obtain ⟨new, hev, -, hstart, -⟩ := (opTail_completes s).1.events
  simp [hev, hstart]

theorem opTail_previousLevel (s : State) : (opTail s).previousLevel = s.previousLevel :=
  (opTail_completes s).1.previousLevel

/-- The end of a decode: POLL, or a relay of the message that the unit or the tail completed. -/
theorem opTail_opDeliver_ctl (s : State) : (opTail (opDeliver s)).ctl = s.ctl ∨
    ((opTail (opDeliver s)).ctl = .txSeg ∧ (∃ e ∈ (opTail (opDeliver s)).events, isMsg e = true) ∧
      s.cfg.action = .relay) := by
  obtain ⟨new, hev, -, -, -, hctl, -⟩ := (deliver_tail_completes s).events
  rcases hctl with hsame | ⟨hsend, hrelay, e, he, hmsg⟩
  · exact .inl hsame
  · exact .inr ⟨hsend, ⟨e, hev ▸ List.mem_append_right _ he, hmsg⟩, hrelay⟩

theorem level_eq_false_iff (c : Cfg) (n : Nat) : level c n = false ↔ n ≤ c.threshold := by
  simp [level]

theorem level_eq_true_iff (c : Cfg) (n : Nat) : level c n = true ↔ c.threshold < n := by
  simp [level]

@[simp] theorem opDecStart_events (s : State) : (opDecStart s).events = s.events := by
  unfold opDecStart
  split <;> rfl

@[simp] theorem opDecStart_inputs (s : State) : (opDecStart s).inputs = s.inputs := by
  unfold opDecStart
  split <;> rfl

@[simp] theorem opDecStart_previousLevel (s : State) : (opDecStart s).previousLevel = s.previousLevel := by
  unfold opDecStart
  split <;> rfl

@[simp] theorem opDecStart_currentLevel (s : State) : (opDecStart s).currentLevel = s.currentLevel := by
  unfold opDecStart
  split <;> rfl

theorem opDecStart_ctl (s : State) : (opDecStart s).ctl = if s.cfg.guardEn then .rxGuard else .rxData := by
  cases hguard : s.cfg.guardEn with
  | true => exact congrArg State.ctl (opDecStart_of_guard hguard)
  | false => exact congrArg State.ctl (opDecStart_of_no_guard hguard)

/-- R101: EDGE starts a decode with a START, or polls on with none. -/
theorem opEdge_ctl {s : State} (hev : s.events = []) (hctl : s.ctl = .poll) :
    (Event.start ∉ (opEdge s).events ∧ ((opEdge s).ctl = .poll ∨ TailRelays s.cfg (opEdge s))) ∨
    (Event.start ∈ (opEdge s).events ∧ s.previousLevel = true ∧ intensityNow s ≤ s.cfg.threshold ∧
      (opEdge s).ctl = if s.cfg.guardEn then .rxGuard else .rxData) := by
  rcases opEdge_cases s with ⟨hprev, hlow, h⟩ | ⟨-, h⟩ <;> rw [h]
  · exact .inr ⟨by simp, hprev, (level_eq_false_iff _ _).mp hlow, opDecStart_ctl _⟩
  · generalize hq : { opSample s with
      currentLevel := level s.cfg (intensityNow s), previousLevel := level s.cfg (intensityNow s) } = q
    have hqev : q.events = [] := hq ▸ hev
    have hqctl : q.ctl = .poll := hq ▸ hctl
    have hqcfg : q.cfg = s.cfg := hq ▸ rfl
    refine .inl ⟨by simp [start_mem_opTail_iff, hqev], ?_⟩
    rw [← hqctl, ← hqcfg]
    exact opTail_ctl q

theorem edgeOrTail_ctl {s : State} (hev : s.events = []) (hctl : s.ctl = .poll) :
    (Event.start ∉ (edgeOrTail s).events ∧ ((edgeOrTail s).ctl = .poll ∨ TailRelays s.cfg (edgeOrTail s))) ∨
    (Event.start ∈ (edgeOrTail s).events ∧ s.previousLevel = true ∧ intensityNow s ≤ s.cfg.threshold ∧
      (edgeOrTail s).ctl = if s.cfg.guardEn then .rxGuard else .rxData) := by
  unfold edgeOrTail
  split
  · refine .inl ⟨by simp [start_mem_opTail_iff, hev], ?_⟩
    rw [← hctl]
    exact opTail_ctl s
  · exact opEdge_ctl hev hctl

/-- AFTER_BURST (R134): POLL, or a relay that the tail of a host burst started. -/
theorem afterBurst_ctl (s : State) :
    (afterBurst s).ctl = .poll ∨ (s.burstKind = .host ∧ TailRelays s.cfg (afterBurst s)) := by
  rcases afterBurst_cases s with ⟨-, h⟩ | ⟨hhost, h⟩ <;> rw [h]
  · exact .inl rfl
  · exact (opTail_ctl { s with ctl := .poll }).imp_right fun hrelay => ⟨hhost, hrelay⟩

/-- FRAME_END (R133, R134). -/
theorem opFrameEnd_ctl (s : State) :
    (∃ u, s.burstKind = .relay ∧ msgRead s (s.relayIdx + 1) = some u ∧ (opFrameEnd s).ctl = .txSeg) ∨
    ((s.burstKind = .host ∨ msgRead s (s.relayIdx + 1) = none) ∧
      (((opFrameEnd s).ctl = .settle ∧ 0 < s.cfg.tSettle) ∨ ((opFrameEnd s).ctl = .poll ∧ s.cfg.tSettle = 0) ∨
        (s.cfg.tSettle = 0 ∧ s.burstKind = .host ∧ TailRelays s.cfg (opFrameEnd s)))) := by
  rcases opFrameEnd_cases s with ⟨u, hrelay, hu, h⟩ | ⟨hlast, h⟩ <;> rw [h]
  · exact .inl ⟨u, hrelay, hu, rfl⟩
  · refine .inr ⟨hlast.imp_right List.getElem?_eq_none, ?_⟩
    generalize hq : emit .txDone { s with isTransmitting := false } = q
    have hcfg : q.cfg = s.cfg := hq ▸ rfl
    have hkind : q.burstKind = s.burstKind := hq ▸ rfl
    rw [← hcfg, ← hkind]
    rcases opBurstEnd_cases q with ⟨hsettle, hend⟩ | ⟨hsettle, hend⟩ <;> rw [hend]
    · exact .inl ⟨rfl, hsettle⟩
    · rcases afterBurst_ctl q with hpoll | ⟨hhost, hrelay⟩
      · exact .inr (.inl ⟨hpoll, hsettle⟩)
      · exact .inr (.inr ⟨hsettle, hhost, hrelay⟩)

/-- DEC_GUARD (R112). -/
theorem opDecGuard_ctl (s : State) :
    ((opDecGuard s).ctl = .rxData ∧ intensityNow s ≤ s.cfg.threshold) ∨
    (s.cfg.threshold < intensityNow s ∧ (opDecGuard s).previousLevel = s.currentLevel ∧
      ((opDecGuard s).ctl = .poll ∨ TailRelays s.cfg (opDecGuard s))) := by
  rcases opDecGuard_cases s with ⟨hhigh, h⟩ | ⟨hlow, h⟩ <;> rw [h]
  · rw [deliverWith_abort]
    exact .inr ⟨(level_eq_true_iff _ _).mp hhigh, opTail_previousLevel _, opTail_ctl _⟩
  · exact .inl ⟨rfl, (level_eq_false_iff _ _).mp hlow⟩

/-- What DEC_SAMPLE writes whether the bit is the last or not (R114). -/
theorem opDecSample_eq (s : State) : ∃ k c, opDecSample s =
    { s with rxShift := writeBit s.rxShift s.rxIdx (level s.cfg (intensityNow s)), timer := s.cfg.tBit - 1,
             events := s.events ++ [.sample s.rxIdx (level s.cfg (intensityNow s))],
             wires := { s.wires with level := level s.cfg (intensityNow s) }, rxIdx := k, ctl := c } := by
  by_cases hidx : s.rxIdx.val < 7
  · exact ⟨s.rxIdx + 1, s.ctl, opDecSample_of_lt hidx⟩
  · exact ⟨s.rxIdx, .rxTrail, opDecSample_of_last hidx⟩

@[simp] theorem opDecSample_inputs (s : State) : (opDecSample s).inputs = s.inputs := by
  obtain ⟨k, c, h⟩ := opDecSample_eq s
  rw [h]

@[simp] theorem opDecSample_currentLevel (s : State) : (opDecSample s).currentLevel = s.currentLevel := by
  obtain ⟨k, c, h⟩ := opDecSample_eq s
  rw [h]

@[simp] theorem opDecSample_timer (s : State) : (opDecSample s).timer = s.cfg.tBit - 1 := by
  obtain ⟨k, c, h⟩ := opDecSample_eq s
  rw [h]

@[simp] theorem opDecSample_rxShift (s : State) :
    (opDecSample s).rxShift = writeBit s.rxShift s.rxIdx (level s.cfg (intensityNow s)) := by
  obtain ⟨k, c, h⟩ := opDecSample_eq s
  rw [h]

/-- DEC_SAMPLE (R114). -/
theorem opDecSample_ctl (s : State) :
    (s.rxIdx.val < 7 ∧ (opDecSample s).ctl = s.ctl) ∨ (s.rxIdx.val = 7 ∧ (opDecSample s).ctl = .rxTrail) := by
  have hbound := s.rxIdx.isLt
  by_cases hidx : s.rxIdx.val < 7
  · rw [opDecSample_of_lt hidx]
    exact .inl ⟨hidx, rfl⟩
  · rw [opDecSample_of_last hidx]
    exact .inr ⟨by omega, rfl⟩

/-- DEC_RETURN (R115). -/
theorem opDecReturn_ctl (s : State) :
    (opDecReturn s).previousLevel = s.currentLevel ∧
    ((opDecReturn s).ctl = .poll ∨
      ((opDecReturn s).ctl = .txSeg ∧ (∃ e ∈ (opDecReturn s).events, isMsg e = true) ∧ s.cfg.action = .relay)) :=
  ⟨(deliver_tail_completes (returned s)).previousLevel, opTail_opDeliver_ctl (returned s)⟩

/-! ### The step by the sequencer state -/

theorem step_of_waiting {s t : State} (hctl : s.ctl ≠ .poll) (ht : 0 < s.timer) (h : step s = .next t) :
    t = endTick (opWait (beginTick s)) := by
  simpa [hctl, ht, ht.ne'] using step_cases h

theorem step_of_rxGuard {s t : State} (hctl : s.ctl = .rxGuard) (ht : s.timer = 0) (h : step s = .next t) :
    t = endTick (opDecGuard (beginTick s)) := by
  simpa [hctl, ht] using step_cases h

theorem step_of_rxData {s t : State} (hctl : s.ctl = .rxData) (ht : s.timer = 0) (h : step s = .next t) :
    t = endTick (opDecSample (beginTick s)) := by
  simpa [hctl, ht] using step_cases h

theorem step_of_rxTrail {s t : State} (hctl : s.ctl = .rxTrail) (ht : s.timer = 0) (h : step s = .next t) :
    t = endTick (opDecReturn (beginTick s)) := by
  simpa [hctl, ht] using step_cases h

theorem step_of_settle {s t : State} (hctl : s.ctl = .settle) (ht : s.timer = 0) (h : step s = .next t) :
    t = endTick (afterBurst (beginTick s)) := by
  simpa [hctl, ht, opSettleEnd] using step_cases h

/-- The last tick of a segment (R81). -/
theorem step_of_segment_end {s t : State} (hctl : s.ctl = .txSeg) (ht : s.timer = 0) (h : step s = .next t) :
    (s.txSeg.val < 9 ∧ t = endTick (opSegAdvance (beginTick s))) ∨
      (s.txSeg.val = 9 ∧ t = endTick (opFrameEnd (beginTick s))) := by
  simpa [hctl, ht] using step_cases h

/-- A POLL tick (R82): a SEND, or the edge detector and the tail from a state that differs from the begun tick in the
totals at most. -/
theorem step_of_ctl_poll {s t : State} (hctl : s.ctl = .poll) (h : step s = .next t) :
    (∃ b, decodeCommand (cmdNow s) = .send b ∧ t = endTick (opSend b (beginTick s))) ∨
    ((∀ b, decodeCommand (cmdNow s) ≠ .send b) ∧
      ∃ q, (q = beginTick s ∨ q = opBerClear (beginTick s)) ∧ t = endTick (edgeOrTail q)) := by
  rcases step_cases h with ⟨-, hcmd, rfl⟩ | ⟨-, hcmd, rfl⟩ | ⟨-, b, hcmd, rfl⟩ | ⟨hne, -⟩ | hother
  · exact .inr ⟨by simp [hcmd], _, .inl rfl, rfl⟩
  · exact .inr ⟨by simp [hcmd], _, .inr rfl, rfl⟩
  · exact .inl ⟨b, hcmd, rfl⟩
  · exact absurd hctl hne
  · simp [hctl] at hother

/-- A POLL tick without a SEND, by what it does to control (R88): it polls on, a relay starts, or a decode starts. -/
theorem step_of_poll_ctl {s t : State} (hctl : s.ctl = .poll) (h : step s = .next t) :
    (∃ b, decodeCommand (cmdNow s) = .send b ∧ t = endTick (opSend b (beginTick s))) ∨
    ((∀ b, decodeCommand (cmdNow s) ≠ .send b) ∧
      ((Event.start ∉ t.events ∧ (t.ctl = .poll ∨ TailRelays s.cfg t)) ∨
       (Event.start ∈ t.events ∧ s.previousLevel = true ∧ intensityNow s ≤ s.cfg.threshold ∧
          t.ctl = if s.cfg.guardEn then .rxGuard else .rxData))) := by
  refine (step_of_ctl_poll hctl h).imp_right fun ⟨hcmd, q, hq, ht⟩ => ⟨hcmd, ?_⟩
  subst ht
  rcases hq with rfl | rfl
  · exact edgeOrTail_ctl (s := beginTick s) rfl hctl
  · exact edgeOrTail_ctl (s := opBerClear (beginTick s)) rfl hctl

/-! ### The obligations -/

/-- Settles O24: the events of a step are those of one completion at most, and others that are no MSG. -/
theorem atMostOneMessageCompletesInAStep : Obligations.AtMostOneMessageCompletesInAStep := by
  intro s t h
  obtain ⟨q, u, hq, ⟨r, hprep, hcompletes⟩, rfl⟩ := step_completesOnce h
  have hnil : q.events = [] := by rcases hq with rfl | ⟨rfl, -⟩ <;> rfl
  obtain ⟨new, hev, hcount, -, hempty, -⟩ := hcompletes.events
  have hnone (e : Event) (he : e ∈ r.events) : ¬ isMsg e = true := fun hmsg => by
    simpa [hnil] using hprep.events e he hmsg
  rw [endTick_events, hev]
  refine ⟨?_, fun c hmem => ?_⟩
  · rw [List.countP_append, List.countP_eq_zero.mpr hnone, Nat.zero_add]
    exact hcount
  · rcases List.mem_append.mp hmem with hold | hnew
    · exact hnone _ hold rfl
    · exact hempty c hnew

/-- Settles O25: a completion that lowers a total is a comparison per message, and before it only a BER_RESET lowers
one. -/
theorem berTotalsFallOnlyByAClear : Obligations.BerTotalsFallOnlyByAClear := by
  intro s t h hfall
  have hreset : decode (.cmd (cmdNow s)) = .ok .berReset ↔ decodeCommand (cmdNow s) = .berReset :=
    decode_cmd_eq_ok_toInstr_iff (c := .berReset)
  obtain ⟨q, u, rfl | ⟨-, hcleared⟩, ⟨r, hprep, hcompletes⟩, rfl⟩ := step_completesOnce h
  · obtain ⟨new, hev, -, -, -, -, hber⟩ := hcompletes.events
    rw [hprep.cfg, hprep.total, hprep.errors] at hber
    rcases hber with ⟨hle, hle'⟩ | ⟨haction, hper, bits, errs, total, errors, hmem⟩
    · simp only [endTick_totalBitsCompared, endTick_bitErrors, beginTick_totalBitsCompared,
        beginTick_bitErrors] at hfall hle hle'
      omega
    · refine .inr ⟨haction, hper, bits, errs, total, errors, ?_⟩
      rw [endTick_events, hev]
      exact List.mem_append_right _ hmem
  · exact .inl (by rwa [hreset])

/-- Settles O14: one row of the table for each value of `ctl`, from what its operation does to control. -/
theorem controlMovesOnlyAsTheTableSays : Obligations.ControlMovesOnlyAsTheTableSays := by
  intro s t h
  have hsend (b : Byte) : decode (.cmd (cmdNow s)) = .ok (.send b) ↔ decodeCommand (cmdNow s) = .send b :=
    decode_cmd_eq_ok_toInstr_iff (c := .send b)
  simp only [ne_eq, hsend]
  refine ⟨fun hctl => ?_, fun hctl ht => ?_, fun ht hctl => ?_, fun ht hctl => ?_, fun ht hctl => ?_,
    fun ht hctl => ?_, fun ht hctl => ?_⟩
  · rcases step_of_poll_ctl hctl h with ⟨b, hcmd, rfl⟩ | ⟨hcmd, ⟨hstart, hpoll | hrelay⟩ | ⟨hstart, hprev, hlow, hdec⟩⟩
    · exact .inr (.inl ⟨rfl, b, hcmd⟩)
    · exact .inl ⟨hpoll, hstart, hcmd⟩
    · obtain ⟨htx, hmsg, hpolicy, haction⟩ := hrelay
      exact .inr (.inr (.inl ⟨htx, hstart, hmsg, hpolicy, haction⟩))
    · cases hguard : s.cfg.guardEn with
      | true => exact .inr (.inr (.inr (.inl ⟨hdec.trans (if_pos hguard), rfl, hstart, hprev, hlow⟩)))
      | false =>
        exact .inr (.inr (.inr (.inr ⟨hdec.trans (if_neg (Bool.eq_false_iff.mp hguard)), rfl, hstart, hprev, hlow⟩)))
  · rw [step_of_waiting hctl ht h]
    rfl
  · rw [step_of_rxGuard hctl ht h]
    rcases opDecGuard_ctl (beginTick s) with hlow | ⟨hhigh, -, hpoll | ⟨htx, hrelay⟩⟩
    · exact .inl hlow
    · exact .inr (.inl ⟨hpoll, hhigh⟩)
    · exact .inr (.inr ⟨htx, hhigh, hrelay⟩)
  · rw [step_of_rxData hctl ht h]
    exact (opDecSample_ctl (beginTick s)).imp_left fun ⟨hidx, hsame⟩ => ⟨hidx, hsame.trans hctl⟩
  · rw [step_of_rxTrail hctl ht h]
    exact (opDecReturn_ctl (beginTick s)).2
  · rcases step_of_segment_end hctl ht h with ⟨hseg, rfl⟩ | ⟨hseg, rfl⟩
    · exact .inl ⟨hctl, hseg⟩
    · rcases opFrameEnd_ctl (beginTick s) with ⟨u, hrelay, hu, htx⟩ | ⟨hlast, hsettle | hpoll | ⟨hzero, hhost, htx, hrelay⟩⟩
      · exact .inr (.inl ⟨htx, hseg, hrelay, u, hu⟩)
      · exact .inr (.inr ⟨hseg, hlast, .inl hsettle⟩)
      · exact .inr (.inr ⟨hseg, hlast, .inr (.inl hpoll)⟩)
      · exact .inr (.inr ⟨hseg, hlast, .inr (.inr ⟨htx, hzero, hhost, hrelay⟩)⟩)
  · rw [step_of_settle hctl ht h]
    rcases afterBurst_ctl (beginTick s) with hpoll | ⟨hhost, htx, hrelay⟩
    · exact .inl hpoll
    · exact .inr ⟨htx, hhost, hrelay⟩

/-- A step in a decode ends it with `previous_level` at the edge poll's level, or the decode goes on (R103). -/
theorem step_of_inDecode {s t : State} (hdec : inDecode s) (h : step s = .next t) :
    t.previousLevel = s.currentLevel ∨ inDecode t := by
  have hctl : s.ctl ≠ .poll := by rcases hdec with hc | hc | hc <;> rw [hc] <;> decide
  rcases Nat.eq_zero_or_pos s.timer with ht | ht
  · rcases hdec with hc | hc | hc
    · rw [step_of_rxGuard hc ht h]
      rcases opDecGuard_ctl (beginTick s) with ⟨hdata, -⟩ | ⟨-, hprev, -⟩
      · exact .inr (.inr (.inl hdata))
      · exact .inl hprev
    · rw [step_of_rxData hc ht h]
      rcases opDecSample_ctl (beginTick s) with ⟨-, hsame⟩ | ⟨-, htrail⟩
      · exact .inr (.inr (.inl (hsame.trans hc)))
      · exact .inr (.inr (.inr htrail))
    · rw [step_of_rxTrail hc ht h]
      exact .inl (opDecReturn_ctl (beginTick s)).1
  · rw [step_of_waiting hctl ht h]
    exact .inr hdec

/-- Settles O21: by the invariant the edge poll's level is low, and a low `previous_level` raises no START. -/
theorem decodeLeavesThePreviousLevelLow : Obligations.DecodeLeavesThePreviousLevelLow := by
  refine ⟨fun s t hinv hdec h hend => ?_, fun s t hprev hctl h => ?_⟩
  · rcases step_of_inDecode hdec h with hlow | hon
    · exact hlow.trans (hinv.edgeLow hdec)
    · exact absurd hon hend
  · rcases step_of_poll_ctl hctl h with ⟨b, -, rfl⟩ | ⟨-, ⟨hstart, hpoll | hrelay⟩ | ⟨-, hhigh, -⟩⟩
    · simp [opSend, inDecode]
    · exact ⟨hstart, by simp [inDecode, hpoll]⟩
    · obtain ⟨htx, -⟩ := hrelay
      exact ⟨hstart, by simp [inDecode, htx]⟩
    · rw [hprev] at hhigh
      cases hhigh

/-- Settles O37: the two arms of EDGE, DEC_START and the tail emitting no START themselves. -/
theorem startBitEventIsAFallingEdge : Obligations.StartBitEventIsAFallingEdge := by
  intro s t h hev
  obtain rfl : t = opEdge s := eq_of_next_eq h
  rw [← level_eq_false_iff, ← level]
  rcases opEdge_cases s with ⟨hprev, hlow, heq⟩ | ⟨hno, heq⟩ <;> rw [heq]
  · have hstart : Event.start ∈ (opDecStart (emit .start { opSample s with currentLevel := false })).events := by simp
    exact ⟨iff_of_true hstart ⟨hprev, hlow⟩, fun hno => absurd hstart hno, fun _ => by simp [hprev]⟩
  · have hstart : Event.start ∉ (opTail { opSample s with
        currentLevel := level s.cfg (intensityNow s), previousLevel := level s.cfg (intensityNow s) }).events := by
      simp [start_mem_opTail_iff, hev]
    refine ⟨iff_of_false hstart fun ⟨hprev, hlow⟩ => ?_, fun _ => opTail_previousLevel _, fun hyes => absurd hyes hstart⟩
    simp [hprev, hlow] at hno

end Sys2Proof.Machine

/-! Proofs of the family other, the operations one by one: what each writes, which operation it goes on to, and where the
model stops. -/

namespace Sys2Proof.Machine

/-! ### Reset and the inputs of a tick -/

/-- Settles O27: the restarted state is the reset record with the environment's fields kept. -/
theorem resetShowsIdleOutputsAndDiscardsTheState : Obligations.ResetShowsIdleOutputsAndDiscardsTheState := fun _ _ =>
  ⟨rfl, rfl, rfl, rfl, rfl, rfl, rfl, rfl, rfl⟩

/-- Settles O35, by the two cases of the input list. -/
theorem inputsOfATickAreTheListedOnes : Obligations.InputsOfATickAreTheListedOnes := by
  refine ⟨fun s i rest hin => ?_, fun s hnil => ⟨?_, intensityNow_of_nil_lt hnil⟩⟩
  · have hcur : currentInput s = i := currentInput_of_cons hin
    exact ⟨congrArg Input.cmd hcur, congrArg Input.intensity hcur⟩
  · rw [cmdNow_of_nil hnil]
    rfl

/-! ### Host commands and the frame start -/

theorem exec_send_of_not_poll {s : State} (b : Byte) (hctl : s.ctl ≠ .poll) : exec (.send b) s = .next s :=
  if_neg hctl

theorem exec_berReset_of_not_poll {s : State} (hctl : s.ctl ≠ .poll) : exec .berReset s = .next s :=
  if_neg hctl

/-- Settles O29: NOP is nothing at any tick, the other two by their guard. -/
theorem nopAndCommandsAtOtherTicksWriteNothing : Obligations.NopAndCommandsAtOtherTicksWriteNothing :=
  ⟨fun _ => rfl, fun _ b hctl => ⟨exec_send_of_not_poll b hctl, exec_berReset_of_not_poll hctl⟩⟩

/-- Settles O31: both are FRAME_START, SEND with its operand on the wire. -/
theorem sendAndFrameStartBeginAFrame : Obligations.SendAndFrameStartBeginAFrame :=
  ⟨fun _ b hctl => exec_send_of_poll b hctl, fun _ => rfl⟩

/-! ### Wire symbols -/

theorem length_flatMap_replicate {α : Type} (f : Nat → α) (n m : Nat) :
    ((List.range n).flatMap fun i => List.replicate m (f i)).length = n * m := by
  simp

/-- Blocks of equal length one after the other: entry `j` of block `k`. -/
theorem getElem?_flatMap_replicate {α : Type} (f : Nat → α) {n m k j : Nat} (hk : k < n) (hj : j < m) :
    ((List.range n).flatMap fun i => List.replicate m (f i))[k * m + j]? = some (f k) := by
  induction n with
  | zero => omega
  | succ n ih =>
    have hlen := length_flatMap_replicate f n m
    rw [List.range_succ, List.flatMap_append]
    rcases Nat.lt_or_ge k n with hlt | hge
    · have hin : k * m + j < n * m := by
        have hblock : (k + 1) * m ≤ n * m := Nat.mul_le_mul_right m hlt
        rw [Nat.succ_mul] at hblock
        omega
      rw [List.getElem?_append_left (hlen ▸ hin)]
      exact ih hlt
    · obtain rfl : k = n := by omega
      rw [List.getElem?_append_right (hlen ▸ Nat.le_add_right _ j), hlen, Nat.add_sub_cancel_left]
      simp [hj]

theorem frameTicks_length (s : State) (b : Byte) : (frameTicks s b).length = 10 * s.cfg.tBit :=
  length_flatMap_replicate _ 10 s.cfg.tBit

/-- R61: tick `j` of segment `k` shows the segment's level. -/
theorem frameTicks_getElem? (s : State) (b : Byte) {k j : Nat} (hk : k < 10) (hj : j < s.cfg.tBit) :
    (frameTicks s b)[k * s.cfg.tBit + j]? = some (lightTick s (segLevel b k)) :=
  getElem?_flatMap_replicate (fun i => lightTick s (segLevel b i)) hk hj

/-- Settles O33: the frame's ticks stand after the listed inputs, ten blocks of T_BIT ticks each. -/
theorem wireSymbolsPutTheirLevelsOnTheChannel : Obligations.WireSymbolsPutTheirLevelsOnTheChannel := by
  refine ⟨fun s b => ⟨opFrame b s, rfl, rfl, ?_, fun n hn => ?_, fun k j hk hj => ?_⟩, fun _ => rfl⟩ <;>
    rw [opFrame_inputs]
  · rw [List.length_append, frameTicks_length]
  · exact List.getElem?_append_left hn
  · rw [Nat.add_assoc, List.getElem?_append_right (Nat.le_add_right _ _), Nat.add_sub_cancel_left]
    exact frameTicks_getElem? s b hk hj

/-! ### Sampler and edge detector -/

/-- SAMPLE puts the level on its wire. -/
theorem exec_sample_of_level {s : State} {l : Level} (hlevel : level s.cfg (intensityNow s) = l) :
    exec .sample s = .next { s with wires := { s.wires with level := l } } :=
  hlevel ▸ rfl

/-- Settles O34, by the two sides of the comparison. -/
theorem sampleComparesStrictlyWithTheThreshold : Obligations.SampleComparesStrictlyWithTheThreshold := fun _ =>
  ⟨fun hhigh => exec_sample_of_level ((level_eq_true_iff _ _).mpr hhigh),
    fun hlow => exec_sample_of_level ((level_eq_false_iff _ _).mpr hlow)⟩

theorem opSample_of_level {s : State} {l : Level} (hlevel : level s.cfg (intensityNow s) = l) :
    opSample s = { s with wires := { s.wires with level := l } } :=
  Host.Outcome.next.inj (exec_sample_of_level hlevel)

/-- Settles O36: which arm runs is what `opEdge_cases` says; the level in either is the sampled one. -/
theorem edgeStartsADecodeOrRunsTheTail : Obligations.EdgeStartsADecodeOrRunsTheTail := by
  intro s
  rcases opEdge_cases s with ⟨hprev, hlow, heq⟩ | ⟨hother, heq⟩
  · refine ⟨fun _ _ => ⟨opEdge s, ?_, rfl⟩, fun hno => ?_⟩
    · rw [heq, opSample_of_level hlow]
      rfl
    · rw [level_eq_false_iff] at hlow
      rcases hno with hno | hno
      · simp [hprev] at hno
      · omega
  · refine ⟨fun hprev hlow => ?_, fun _ => ⟨opEdge s, ?_, rfl⟩⟩
    · rw [← level_eq_false_iff] at hlow
      simp [hprev, hlow] at hother
    · rw [heq]
      rfl

/-! ### Decoder -/

/-- Settles O39, by the two cases of DEC_GUARD; an aborted delivery only sets its wires. -/
theorem guardAbortsOnHighAndGoesOnOnLow : Obligations.GuardAbortsOnHighAndGoesOnOnLow := by
  refine fun s => ⟨fun hhigh => ⟨opDecGuard s, ?_, rfl⟩, fun hlow => ?_⟩
  · have hlevel := (level_eq_true_iff s.cfg _).mpr hhigh
    rw [opDecGuard_of_high hlevel, opSample_of_level hlevel, deliverWith_abort]
    rfl
  · have hlevel := (level_eq_false_iff s.cfg _).mpr hlow
    change Host.Outcome.next (opDecGuard s) = _
    rw [opDecGuard_of_low hlevel, opSample_of_level hlevel]

/-- Settles O40: `writeBit` writes the one bit, and the index says which of the two ends of DEC_SAMPLE is taken. -/
theorem dataSampleWritesOneBitOfTheUnit : Obligations.DataSampleWritesOneBitOfTheUnit := by
  intro s
  have hbound := s.rxIdx.isLt
  have hbits (j : Nat) (hj : j < 8) := writeBit_getLsbD s.rxShift s.rxIdx (level s.cfg (intensityNow s)) j hj
  refine ⟨opDecSample s, rfl, ?_⟩
  by_cases hidx : s.rxIdx.val < 7
  · have hnext : (s.rxIdx + 1).val = s.rxIdx.val + 1 := Fin.val_add_one_of_lt (Fin.lt_def.mpr hidx)
    rw [opDecSample_of_lt hidx]
    exact ⟨hbits, fun _ => ⟨hnext, rfl⟩, fun hlast => by omega, rfl⟩
  · rw [opDecSample_of_last hidx]
    exact ⟨hbits, fun hlt => absurd hlt hidx, fun _ => ⟨rfl, rfl⟩, rfl⟩

/-- Settles O41: the decode returns through DELIVER and TAIL, which both always complete. -/
theorem decodeReturnDeliversTheUnitThenRunsTheTail : Obligations.DecodeReturnDeliversTheUnitThenRunsTheTail := fun s =>
  ⟨opDeliver (returned s), opDecReturn s, rfl, congrArg Host.Outcome.next (opDecReturn_eq s).symm, rfl⟩

/-! ### Encoder -/

theorem exec_segAdvance_of_lt {s : State} (hseg : s.txSeg.val < 9) : exec .segAdvance s = .next (opSegAdvance s) :=
  if_pos hseg

theorem opSegAdvance_txSeg_val {s : State} (hseg : s.txSeg.val < 9) : (opSegAdvance s).txSeg.val = s.txSeg.val + 1 :=
  Fin.val_add_one_of_lt (Fin.lt_def.mpr hseg)

/-- Settles O42: the next segment is a data segment up to the eighth, then the stop segment. -/
theorem segmentAdvancePutsTheNextLevelOnTheChannel : Obligations.SegmentAdvancePutsTheNextLevelOnTheChannel := by
  intro s hseg
  refine ⟨opSegAdvance s, exec_segAdvance_of_lt hseg, opSegAdvance_txSeg_val hseg, fun hdata => ?_, fun hstop => ?_, rfl⟩
  · exact segLevel_of_data s.txHold (Nat.le_add_left 1 _) hdata
  · rw [opSegAdvance_txLevel, hstop, segLevel_nine]

/-- Settles O43: the guard of WAIT. -/
theorem waitDecrementsTheTimer : Obligations.WaitDecrementsTheTimer := fun _ ht => if_pos ht

/-- Settles O44, by the unit that FRAME_END would send next. -/
theorem frameEndStartsTheNextUnitOrEndsTheBurst : Obligations.FrameEndStartsTheNextUnitOrEndsTheBurst := by
  refine ⟨fun s u hrelay hu => ?_, fun s hlast => ?_⟩
  · have hnext : nextRelayUnit s = some u := nextRelayUnit_eq_some.mpr ⟨hrelay, hu⟩
    change Host.Outcome.next (opFrameEnd s) = _
    rw [opFrameEnd_of_some hnext]
    simp [startFrame, opFrameStart, emit]
  · have hnext : nextRelayUnit s = none := by
      rcases hlast with hhost | hnone
      · simp [nextRelayUnit, hhost]
      · cases hkind : s.burstKind <;> simp [nextRelayUnit, hkind, hnone]
    exact ⟨_, rfl, congrArg Host.Outcome.next (opFrameEnd_of_none hnext)⟩

/-! ### Assembler -/

theorem opCompleteTerm_of_ne {s : State} (hunit : s.wires.decData ≠ s.cfg.terminator) : opCompleteTerm s = s := by
  rcases opCompleteTerm_cases s with ⟨-, h⟩ | ⟨heq, -⟩
  · exact h
  · exact absurd heq hunit

theorem opCompleteTerm_of_eq {s : State} (hunit : s.wires.decData = s.cfg.terminator) :
    opCompleteTerm s = completeWith .term s := by
  rcases opCompleteTerm_cases s with ⟨hne, -⟩ | ⟨-, h⟩
  · exact absurd hunit hne
  · exact h

/-- R165: with a unit in the buffer COMPLETE never meets the stop of log 9. -/
theorem exec_complete_of_ne_nil {s : State} (hbuf : s.msgBuf ≠ []) : exec .complete s = .next (opComplete s) := by
  have hunit : relaysNothing s = false := by simp [relaysNothing, hbuf]
  simp [exec, execComplete, hunit]

/-- Outside RELAY nothing is read from the buffer, so COMPLETE completes whatever it holds. -/
theorem exec_complete_of_not_relay {s : State} (haction : s.cfg.action ≠ .relay) :
    exec .complete s = .next (opComplete s) := by
  simp [exec, execComplete, relaysNothing, haction]

/-- Settles O48: the test of COMPLETE_TERM; a non-empty buffer keeps both operations off the stop of log 9. -/
theorem terminatorUnitCompletesTheMessage : Obligations.TerminatorUnitCompletesTheMessage := by
  refine fun s => ⟨fun hne => ?_, fun heq hbuf => ?_⟩
  · have htest : isTerminator s.cfg s.wires.decData = false := by simp [isTerminator, hne]
    simp [exec, execCompleteTerm, htest, opCompleteTerm_of_ne hne]
  · refine ⟨_, exec_complete_of_ne_nil (s := { s with wires := { s.wires with cause := .term } }) hbuf, ?_⟩
    rw [exec_completeTerm_of_ne_nil hbuf, opCompleteTerm_of_eq heq]
    rfl

theorem opTail_of_idleTimeout {s : State} (hpolicy : s.cfg.policy = .idleTimeout) : opTail s = opCompleteIdle s := by
  unfold opTail
  rw [hpolicy]

theorem exec_completeIdle (s : State) : exec .completeIdle s = .next (opCompleteIdle s) := rfl

/-- Settles O49: TAIL by its policy, COMPLETE_IDLE by the strict test of R159. -/
theorem tailCompletesAnIdleMessageStrictly : Obligations.TailCompletesAnIdleMessageStrictly := by
  refine fun s => ⟨fun hpolicy => congrArg Host.Outcome.next (opTail_of_terminator hpolicy),
    fun hpolicy => ⟨_, rfl, congrArg Host.Outcome.next (opTail_of_idleTimeout hpolicy)⟩, fun hearly => ?_,
    fun hbuf hlate => ?_⟩
  · have hidle : ¬ idleExpired s = true := fun hidle => by
      obtain ⟨hpending, hlate⟩ := (idleExpired_iff s).mp hidle
      rcases hearly with hnil | hearly
      · simp [hnil] at hpending
      · omega
    rw [exec_completeIdle, opCompleteIdle, if_neg hidle]
  · have hidle : idleExpired s = true := (idleExpired_iff s).mpr ⟨List.length_pos_of_ne_nil hbuf, hlate⟩
    refine ⟨_, exec_complete_of_ne_nil (s := { s with wires := { s.wires with cause := .idle } }) hbuf, ?_⟩
    rw [exec_completeIdle, opCompleteIdle, if_pos hidle]
    rfl

theorem exec_actRelay_of_ne_nil {s : State} (hbuf : s.msgBuf ≠ []) : exec .actRelay s = .next (opActRelay s) := by
  simp [exec, execActRelay, hbuf]

/-- Settles O50: the three actions of COMPLETE. -/
theorem completionReportsTheMessageAndActs : Obligations.CompletionReportsTheMessageAndActs := by
  intro s
  refine ⟨fun haction => ?_, fun haction => ?_, fun haction hbuf => ?_⟩
  · rw [exec_complete_of_not_relay (by simp [haction]), opComplete, haction]
    simp [opActNone, opClear, emit]
  · refine ⟨_, rfl, ?_⟩
    rw [exec_complete_of_not_relay (by simp [haction]), opComplete, haction]
    rfl
  · refine ⟨_, exec_actRelay_of_ne_nil (s := emit (.msg s.msgBuf s.wires.cause) s) hbuf, ?_⟩
    rw [exec_complete_of_ne_nil hbuf, opComplete, haction]

/-- Settles O52: unit 0 is the head of the buffer. -/
theorem relayStartsWithTheFirstUnit : Obligations.RelayStartsWithTheFirstUnit := by
  intro s u hu
  obtain ⟨us, hbuf⟩ : ∃ us, s.msgBuf = u :: us := List.head?_eq_some_iff.mp (List.head?_eq_getElem? .. ▸ hu)
  rw [exec_actRelay_of_ne_nil (by simp [hbuf]), opActRelay_of_cons hbuf]
  rfl

/-! ### The model's own stops -/

theorem relaysNothing_of_nil {s : State} (hbuf : s.msgBuf = []) (haction : s.cfg.action = .relay) :
    relaysNothing s = true := by
  simp [relaysNothing, hbuf, haction]

/-- Settles O53: the guard of each operation fails in the situation named. -/
theorem stopsOutsideTheSelectingSituations : Obligations.StopsOutsideTheSelectingSituations := by
  refine ⟨fun s ht => ?_, fun s hseg => ?_, fun s hbuf => ?_, fun s hbuf haction => ?_, fun s hbuf haction hunit => ?_⟩
  · exact if_neg (by omega)
  · exact if_neg (by omega)
  · simp [exec, execActRelay, hbuf]
  · simp [exec, execComplete, relaysNothing_of_nil hbuf haction]
  · simp [exec, execCompleteTerm, isTerminator, hunit, relaysNothing_of_nil hbuf haction]

/-! ### Bit-error-rate accumulator -/

/-- Settles O55: ACCUMULATE is one record. -/
theorem accumulateAddsTheComparison : Obligations.AccumulateAddsTheComparison := fun _ => rfl

end Sys2Proof.Machine

/-! Proofs of the family other, steps that do not look at their input (R53, R87, R93) and the ticks of a wait. -/

namespace Sys2Proof.Machine

/-! ### Steps that do not look at their input -/

/-- The node sends, settles or waits (R53). -/
def LooksAway (s : State) : Prop := s.ctl = .txSeg ∨ s.ctl = .settle ∨ (s.ctl ≠ .poll ∧ 0 < s.timer)

/-- The operation selected there passes the input list on unread. -/
theorem exec_select_withInputs_of_looksAway {s : State} (h : LooksAway s) (l : List Input) :
    exec (select s) (withInputs l s) = mapNext (withInputs l) (exec (select s) s) := by
  have hctl : s.ctl ≠ .poll := by
    rcases h with hc | hc | ⟨hc, -⟩
    · simp [hc]
    · simp [hc]
    · exact hc
  rcases select_cases s with ⟨hpoll, -⟩ | ⟨-, ht, hsel⟩ | ⟨ht, hdue⟩
  · exact absurd hpoll hctl
  · rw [hsel]
    simp [exec, execWait, mapNext, ht, opWait, withInputs]
  · have hsend : s.ctl = .txSeg ∨ s.ctl = .settle := by
      rcases h with hc | hc | ⟨-, hpos⟩
      · exact .inl hc
      · exact .inr hc
      · omega
    rcases hsend with hc | hc <;>
      simp only [hc, reduceCtorEq, false_and, false_or, or_false, true_and] at hdue
    · rcases hdue with ⟨h9, hsel⟩ | ⟨-, hsel⟩ <;> rw [hsel]
      · simp [exec, execSegAdvance, mapNext, h9, opSegAdvance, withInputs]
      · exact congrArg Host.Outcome.next (opFrameEnd_withInputs l s)
    · rw [hdue]
      exact congrArg Host.Outcome.next (afterBurst_withInputs l s)

theorem step_withInputs_of_looksAway {s : State} {i j : Input} {rest : List Input} (h : LooksAway s)
    (hin : s.inputs = i :: rest) (hi : i.intensity < 2 ^ s.cfg.intW) (hj : j.intensity < 2 ^ s.cfg.intW) :
    step (withInputs (j :: rest) s) = step s := by
  have hlegal : inputLegal (withInputs (j :: rest) s) = inputLegal s := by simp [inputLegal, hin, hi, hj]
  have hself : withInputs (i :: rest) (beginTick s) = beginTick s := by
    rw [← hin]
    rfl
  have hunread (l : List Input) : exec (select s) (withInputs l (beginTick s)) =
      mapNext (withInputs l) (exec (select s) (beginTick s)) :=
    exec_select_withInputs_of_looksAway (s := beginTick s) h l
  have hexec : mapNext endTick (exec (select s) (withInputs (j :: rest) (beginTick s))) =
      mapNext endTick (exec (select s) (beginTick s)) :=
    calc mapNext endTick (exec (select s) (withInputs (j :: rest) (beginTick s)))
      _ = mapNext endTick (mapNext (withInputs (j :: rest)) (exec (select s) (beginTick s))) := by rw [hunread]
      _ = mapNext endTick (mapNext (withInputs (i :: rest)) (exec (select s) (beginTick s))) :=
        mapNext_endTick_withInputs i j rest _
      _ = mapNext endTick (exec (select s) (beginTick s)) := by rw [← hunread, hself]
  rw [step, step, withInputs_cfg, hlegal, select_withInputs, beginTick_withInputs, hexec]

/-! ### Runs -/

theorem run_zero (s : State) : core.run 0 s = .next s := rfl

/-- A run goes on where a first part of it ended. -/
theorem run_add {m n : Nat} {s t u : State} (hm : core.run m s = .next t) (hn : core.run n t = .next u) :
    core.run (m + n) s = .next u := by
  induction m generalizing s with
  | zero =>
    obtain rfl : t = s := eq_of_next_eq hm
    rwa [Nat.zero_add]
  | succ m ih =>
    obtain ⟨r, hr, ht⟩ := run_succ_eq_next_iff.mp hm
    rw [Nat.succ_add]
    exact run_succ_eq_next_iff.mpr ⟨r, hr, ih ht⟩

theorem run_one {s t : State} (h : step s = .next t) : core.run 1 s = .next t :=
  run_succ_eq_next_iff.mpr ⟨t, h, run_zero t⟩

theorem legalInputs.inputLegal {s : State} (h : legalInputs s) : inputLegal s = true :=
  (inputLegal_iff s).mpr fun i _ hin => h i (hin ▸ List.mem_cons_self)

/-- What is left of legal inputs is legal. -/
theorem legalInputs.of_drop {s t : State} (h : legalInputs s) (n : Nat) (hcfg : t.cfg = s.cfg)
    (hin : t.inputs = s.inputs.drop n) : legalInputs t := fun i hi => by
  rw [hin] at hi
  rw [hcfg]
  exact h i (List.mem_of_mem_drop hi)

/-- R87: `n` ticks of a wait, at least one. -/
theorem run_wait {n : Nat} {s : State} (hlegal : s.cfg.legal = true) (hin : legalInputs s) (hctl : s.ctl ≠ .poll)
    (hpos : 1 ≤ n) (hn : n ≤ s.timer) :
    core.run n s = .next { s with
      timer := s.timer - n, now := s.now + n, inputs := s.inputs.drop n, events := [], wires := Wires.rest } := by
  induction n, hpos using Nat.le_induction generalizing s with
  | base =>
    rw [run_one (step_wait hlegal hin.inputLegal hctl hn), List.drop_one]
  | succ n hpos ih =>
    have hstep := step_wait hlegal hin.inputLegal hctl (by omega)
    refine run_succ_eq_next_iff.mpr ⟨_, hstep, ?_⟩
    refine Eq.trans (ih hlegal ?_ hctl (Nat.le_sub_of_add_le hn)) ?_
    · exact hin.of_drop 1 rfl List.drop_one.symm
    · simp only [List.drop_tail, Nat.sub_sub, Nat.add_assoc, Nat.add_comm 1 n]

/-! ### The obligations -/

/-- Settles O16: both inputs are legal, and the selected operation reads neither. -/
theorem waitingAndSendingStepsIgnoreTheInputs : Obligations.WaitingAndSendingStepsIgnoreTheInputs :=
  fun _ _ _ _ haway hin hi hj => step_withInputs_of_looksAway haway hin hi hj

/-- Settles O17, by induction on the number of ticks. -/
theorem waitingCountsTheTimerDown : Obligations.WaitingCountsTheTimerDown := fun _ _ hlegal hin hctl hpos hn =>
  run_wait hlegal hin hctl hpos hn

end Sys2Proof.Machine

/-! Proofs of the family other, frames from end to end: a sent frame, segment by segment (R130, R135), and the frame of a
relay burst after it (R168). -/

namespace Sys2Proof.Machine

/-! ### Ticks passed -/

/-- The state `d` ticks later as far as time and the inputs go, with the events and the wires of the last tick. -/
def later (d : Nat) (es : List Event) (w : Wires) (s : State) : State :=
  { s with now := s.now + d, inputs := s.inputs.drop d, events := es, wires := w }

theorem legalInputs.later {s : State} (h : legalInputs s) (d : Nat) (es : List Event) (w : Wires) :
    legalInputs (later d es w s) := h.of_drop d rfl rfl

/-- R87: `n` ticks of a wait, none included. -/
theorem run_wait_le {n : Nat} {s : State} (hlegal : s.cfg.legal = true) (hin : legalInputs s) (hctl : s.ctl ≠ .poll)
    (hn : n ≤ s.timer) : ∃ es w, core.run n s = .next (later n es w { s with timer := s.timer - n }) := by
  rcases Nat.eq_zero_or_pos n with rfl | hpos
  · exact ⟨s.events, s.wires, rfl⟩
  · exact ⟨[], Wires.rest, run_wait hlegal hin hctl hpos hn⟩

theorem tBit_pos_of_legal {c : Cfg} (hlegal : c.legal = true) : 0 < c.tBit := by
  obtain ⟨hbit, -⟩ := (cfg_legal_iff c).mp hlegal
  omega

/-! ### The ticks of one segment -/

/-- The state in segment `g` of its frame, emitting `l`, with `n` ticks left to wait. -/
def inSegment (g : Fin 10) (l : Level) (n : Nat) (s : State) : State := { s with txSeg := g, txLevel := l, timer := n }

/-- The node sends a frame under a legal configuration and legal inputs. -/
structure Sends (s : State) : Prop where
  legal : s.cfg.legal = true
  inputs : legalInputs s
  ctl : s.ctl = .txSeg

/-- It goes on to send, whatever the tick and the segment. -/
theorem Sends.goOn {s : State} (h : Sends s) (d : Nat) (es : List Event) (w : Wires) (g : Fin 10) (l : Level)
    (n : Nat) : Sends (later d es w (inSegment g l n s)) :=
  ⟨h.legal, h.inputs.later d es w, h.ctl⟩

theorem Sends.run_wait {n : Nat} {s : State} (h : Sends s) (hn : n ≤ s.timer) : ∃ es w,
    core.run n s = .next (later n es w (inSegment s.txSeg s.txLevel (s.timer - n) s)) :=
  run_wait_le h.legal h.inputs (by rw [h.ctl]; decide) hn

theorem Sends.step_segAdvance {s : State} (h : Sends s) (ht : s.timer = 0) (hseg : s.txSeg.val < 9) :
    step s = .next (endTick (opSegAdvance (beginTick s))) :=
  step_of_select h.legal h.inputs.inputLegal (by simp [select, h.ctl, ht, hseg]) (exec_segAdvance_of_lt hseg)

theorem Sends.step_frameEnd {s : State} (h : Sends s) (ht : s.timer = 0) (hseg : s.txSeg.val = 9) :
    step s = .next (endTick (opFrameEnd (beginTick s))) :=
  step_of_select (i := .frameEnd) h.legal h.inputs.inputLegal (by simp [select, h.ctl, ht, hseg]) rfl

/-- R132: T_BIT ticks after the first tick of a segment the next one begins. -/
theorem Sends.run_segment {s : State} (h : Sends s) (ht : s.timer = s.cfg.tBit - 1) (hseg : s.txSeg.val < 9) :
    core.run s.cfg.tBit s = .next (later s.cfg.tBit [] Wires.rest
      (inSegment (s.txSeg + 1) (segLevel s.txHold (s.txSeg.val + 1)) (s.cfg.tBit - 1) s)) := by
  have hsplit : s.cfg.tBit - 1 + 1 = s.cfg.tBit := Nat.sub_add_cancel (tBit_pos_of_legal h.legal)
  obtain ⟨es, w, hwait⟩ := h.run_wait ht.ge
  have hlast := h.goOn (s.cfg.tBit - 1) es w s.txSeg s.txLevel (s.timer - (s.cfg.tBit - 1))
  have hrun := run_add hwait (run_one (hlast.step_segAdvance (Nat.sub_eq_zero_of_le ht.le) hseg))
  rw [hsplit] at hrun
  rw [hrun]
  simp only [later, inSegment, endTick, opSegAdvance, beginTick, List.tail_drop, Nat.add_assoc, hsplit]

/-! ### The ten segments -/

/-- R130: the first tick of segment `k` of a frame comes `k` bit periods after that of segment 0, and only the segment,
its level and the timer differ. -/
theorem Sends.run_segments {s : State} (h : Sends s) (ht : s.timer = s.cfg.tBit - 1) (hseg : s.txSeg = 0) {k : Nat}
    (hk : k < 10) : ∃ g l es w, g.val = k ∧ (s.txLevel = false → l = segLevel s.txHold k) ∧
      core.run (k * s.cfg.tBit) s =
        .next (later (k * s.cfg.tBit) es w (inSegment g l (s.cfg.tBit - 1) s)) := by
  induction k with
  | zero =>
    refine ⟨s.txSeg, s.txLevel, s.events, s.wires, by simp [hseg], id, ?_⟩
    simp [run_zero, later, inSegment, ← ht]
  | succ k ih =>
    obtain ⟨g, l, es, w, hg, -, hrun⟩ := ih (by omega)
    have hlt : g.val < 9 := by omega
    have hnext := (h.goOn (k * s.cfg.tBit) es w g l (s.cfg.tBit - 1)).run_segment rfl hlt
    refine ⟨g + 1, segLevel s.txHold (k + 1), [], Wires.rest, ?_, fun _ => rfl, ?_⟩
    · rw [Fin.val_add_one_of_lt (Fin.lt_def.mpr hlt), hg]
    · rw [Nat.succ_mul]
      refine (run_add hrun hnext).trans ?_
      simp only [later, inSegment, hg, List.drop_drop, Nat.add_assoc]

/-- R135: the frame ends 10 bit periods after its first tick, by FRAME_END in its last tick. -/
theorem Sends.run_frame {s : State} (h : Sends s) (ht : s.timer = s.cfg.tBit - 1) (hseg : s.txSeg = 0) :
    ∃ g l w, core.run (10 * s.cfg.tBit) s =
      .next (endTick (opFrameEnd (later (10 * s.cfg.tBit - 1) [] w (inSegment g l 0 s)))) := by
  have hbit := tBit_pos_of_legal h.legal
  have hsplit : 9 * s.cfg.tBit + (s.cfg.tBit - 1 + 1) = 10 * s.cfg.tBit := by omega
  have hlastTick : 9 * s.cfg.tBit + (s.cfg.tBit - 1) = 10 * s.cfg.tBit - 1 := by omega
  obtain ⟨g, l, es, w, hg, -, hrun⟩ := h.run_segments ht hseg (k := 9) (by decide)
  have hstop := h.goOn (9 * s.cfg.tBit) es w g l (s.cfg.tBit - 1)
  obtain ⟨es', w', hwait⟩ := hstop.run_wait (Nat.le_refl (s.cfg.tBit - 1))
  have hlast := hstop.goOn (s.cfg.tBit - 1) es' w' g l (s.cfg.tBit - 1 - (s.cfg.tBit - 1))
  have hall := run_add hrun (run_add hwait (run_one (hlast.step_frameEnd (Nat.sub_self _) hg)))
  rw [hsplit] at hall
  refine ⟨g, l, w', hall.trans ?_⟩
  simp only [later, inSegment, beginTick, Nat.sub_self, List.drop_drop, Nat.add_assoc, hlastTick]

/-! ### The obligations -/

/-- R85: the step that takes a SEND. -/
theorem step_send {s : State} {b : Byte} (hlegal : s.cfg.legal = true) (hin : inputLegal s = true)
    (hctl : s.ctl = .poll) (hcmd : decodeCommand (cmdNow s) = .send b) :
    step s = .next (endTick (opSend b (beginTick s))) :=
  step_of_select hlegal hin (select_of_ctl_poll hctl) (execPoll_of_send hcmd)

/-- Settles O58: the SEND's step begins the frame, and each of its ticks is some ticks of a wait after the first tick of
its segment. -/
theorem sentFrameHoldsEachSegmentForTheBitPeriod : Obligations.SentFrameHoldsEachSegmentForTheBitPeriod := by
  intro s b hlegal hin hctl hdec
  have hcmd : decodeCommand (cmdNow s) = .send b := decode_cmd_eq_ok_toInstr_iff.mp hdec
  have hfirst := run_one (step_send hlegal hin.inputLegal hctl hcmd)
  have hsends : Sends (endTick (opSend b (beginTick s))) :=
    ⟨hlegal, hin.of_drop 1 rfl List.drop_one.symm, rfl⟩
  refine ⟨fun k j hk hj => ?_, ?_⟩
  · obtain ⟨g, l, es, w, hg, hl, hrun⟩ := hsends.run_segments rfl rfl hk
    obtain ⟨es', w', hwait⟩ :=
      (hsends.goOn (k * s.cfg.tBit) es w g l (s.cfg.tBit - 1)).run_wait (Nat.le_sub_one_of_lt hj)
    exact ⟨_, run_add (run_add hfirst hrun) hwait, hl rfl, rfl, hg⟩
  · obtain ⟨g, l, w, hrun⟩ := hsends.run_frame rfl rfl
    refine ⟨_, run_add hfirst hrun, (opFrameEnd_proceeds _).events.subset ?_⟩
    exact List.mem_append_right _ (List.mem_singleton_self _)

/-- Settles O59: FRAME_END in the last tick of the frame starts the next one. -/
theorem relayFramesFollowWithoutAGap : Obligations.RelayFramesFollowWithoutAGap := by
  intro s u hlegal hin hctl hseg ht hkind hu
  have hlate : s.now + (10 * s.cfg.tBit - 1) + 1 = s.now + 10 * s.cfg.tBit := by
    have hbit := tBit_pos_of_legal hlegal
    omega
  obtain ⟨g, l, w, hrun⟩ := Sends.run_frame ⟨hlegal, hin, hctl⟩ ht hseg
  have hnext : nextRelayUnit (later (10 * s.cfg.tBit - 1) [] w (inSegment g l 0 s)) = some u :=
    nextRelayUnit_eq_some.mpr ⟨hkind, hu⟩
  rw [opFrameEnd_of_some hnext] at hrun
  exact ⟨_, hrun, rfl, rfl, rfl, hkind, rfl, rfl, rfl, rfl, rfl, rfl, hlate⟩

end Sys2Proof.Machine

/-! Proofs of the family other, the frame of a unit on the channel of a polling node (R117, S1): the decode, sample by
sample. -/

namespace Sys2Proof.Machine

/-! ### The light of the frame -/

/-- What stands while the node `s` decodes the frame of `b`, `n` ticks after the frame came on the channel. -/
structure Decoding (s : State) (b : Byte) (n : Nat) (t : State) : Prop where
  cfg : t.cfg = s.cfg
  inputs : t.inputs = (frameTicks s b).drop n
  low : t.currentLevel = false

theorem frameTicks_legal {s : State} (hlight : lightSeparates s) (b : Byte) :
    ∀ i ∈ frameTicks s b, i.intensity < 2 ^ s.cfg.intW := by
  obtain ⟨hlow, hhigh, hmax⟩ := hlight
  intro i hi
  simp only [frameTicks, List.mem_flatMap, List.mem_replicate] at hi
  obtain ⟨k, -, -, rfl⟩ := hi
  cases hl : segLevel b k
  · simp only [lightTick, Bool.false_eq_true, if_false]
    omega
  · simpa only [lightTick, if_true] using hmax

section
variable {s t : State} {b : Byte} {n : Nat}

theorem Decoding.legalInputs (h : Decoding s b n t) (hlight : lightSeparates s) : legalInputs t := fun i hi => by
  rw [h.inputs] at hi
  rw [h.cfg]
  exact frameTicks_legal hlight b i (List.mem_of_mem_drop hi)

/-- At tick `j` of segment `k` the channel shows the segment's level and the host asks nothing. -/
theorem currentInput_of_frameTicks {k j : Nat} (hin : t.inputs = (frameTicks s b).drop (k * s.cfg.tBit + j))
    (hk : k < 10) (hj : j < s.cfg.tBit) : currentInput t = lightTick s (segLevel b k) := by
  have hhead : t.inputs[0]? = some (lightTick s (segLevel b k)) := by
    rw [hin, List.getElem?_drop, Nat.add_zero, frameTicks_getElem? s b hk hj]
  cases hl : t.inputs with
  | nil => simp [hl] at hhead
  | cons i rest =>
    rw [hl] at hhead
    rw [currentInput_of_cons hl]
    exact Option.some.inj hhead

/-- The light separates, so the sampled level is the segment's (R3). -/
theorem level_lightTick (hlight : lightSeparates s) (l : Level) : level s.cfg (lightTick s l).intensity = l := by
  obtain ⟨hlow, hhigh, -⟩ := hlight
  cases l
  · exact (level_eq_false_iff _ _).mpr hlow
  · exact (level_eq_true_iff _ _).mpr hhigh

theorem Decoding.level (h : Decoding s b n t) (hlight : lightSeparates s) {k j : Nat} (hn : n = k * s.cfg.tBit + j)
    (hk : k < 10) (hj : j < s.cfg.tBit) : level t.cfg (intensityNow t) = segLevel b k := by
  rw [h.cfg, intensityNow, currentInput_of_frameTicks (hn ▸ h.inputs) hk hj]
  exact level_lightTick hlight _

/-! ### The ticks of the decode -/

/-- A tick that keeps the configuration, the edge poll's level and the list of what comes. -/
theorem Decoding.endTick (h : Decoding s b n t) {u : State} (hcfg : u.cfg = t.cfg) (hin : u.inputs = t.inputs)
    (hlow : u.currentLevel = t.currentLevel) : Decoding s b (n + 1) (endTick u) where
  cfg := hcfg.trans h.cfg
  inputs := by rw [endTick_inputs, hin, h.inputs, List.tail_drop]
  low := hlow.trans h.low

theorem Decoding.run_wait (h : Decoding s b n t) (hlegal : s.cfg.legal = true) (hlight : lightSeparates s)
    (hctl : t.ctl ≠ .poll) {m : Nat} (hm : m = t.timer) :
    ∃ u : State, core.run m t = .next u ∧ Decoding s b (n + m) u ∧ u.timer = 0 ∧ u.ctl = t.ctl ∧
      u.rxIdx = t.rxIdx ∧ u.rxShift = t.rxShift := by
  obtain ⟨es, w, hrun⟩ := run_wait_le (h.cfg ▸ hlegal) (h.legalInputs hlight) hctl hm.le
  refine ⟨_, hrun, ⟨h.cfg, ?_, h.low⟩, Nat.sub_eq_zero_of_le hm.ge, rfl, rfl, rfl⟩
  rw [← List.drop_drop, ← h.inputs]
  rfl

end

/-- Sample `i` of the frame is due (R114): `T_HALF` into segment `i + 1`, the bits below `i` sampled. -/
structure SampleDue (s : State) (b : Byte) (i : Nat) (t : State) : Prop where
  decoding : Decoding s b ((i + 1) * s.cfg.tBit + tHalf s.cfg) t
  ctl : t.ctl = .rxData
  timer : t.timer = 0
  idx : t.rxIdx.val = i
  bits : ∀ j < i, t.rxShift.getLsbD j = b.getLsbD j

/-- The return is due (R115): `T_HALF` into the stop segment, the whole unit sampled. -/
structure ReturnDue (s : State) (b : Byte) (t : State) : Prop where
  decoding : Decoding s b (9 * s.cfg.tBit + tHalf s.cfg) t
  ctl : t.ctl = .rxTrail
  timer : t.timer = 0
  unit : t.rxShift = b

theorem decodeCommand_lightTick (s : State) (l : Level) : decodeCommand (lightTick s l).cmd = .nop :=
  decodeCommand_encodeCommand .nop

theorem tHalf_lt {c : Cfg} (hlegal : c.legal = true) : tHalf c < c.tBit :=
  Nat.div_lt_self (tBit_pos_of_legal hlegal) (by decide)

theorem tHalf_pos {c : Cfg} (hlegal : c.legal = true) : 0 < tHalf c :=
  tHalf_pos_of_two_le ((cfg_legal_iff c).mp hlegal).1

section
variable {s : State} {b : Byte} (hlegal : s.cfg.legal = true) (hlight : lightSeparates s)
include hlegal hlight

/-- R102, R111: the edge tick of the frame starts the decode. -/
theorem run_edge (hctl : s.ctl = .poll) (hidle : s.isTransmitting = false) (hprev : s.previousLevel = true)
    (hnil : s.inputs = []) : ∃ q, q.cfg = s.cfg ∧ core.run 1 (opFrame b s) = .next (endTick (opDecStart q)) ∧
      Decoding s b 1 (endTick (opDecStart q)) := by
  obtain ⟨t, ht⟩ : ∃ t, t = opFrame b s := ⟨_, rfl⟩
  have hin : t.inputs = frameTicks s b := by rw [ht, opFrame_inputs, hnil, List.nil_append]
  have hcfg : t.cfg = s.cfg := ht ▸ rfl
  have hcur : currentInput t = lightTick s (segLevel b 0) :=
    currentInput_of_frameTicks (j := 0) (by simpa using hin) (by decide) (tBit_pos_of_legal hlegal)
  have hall : legalInputs t := fun i hi => hcfg ▸ frameTicks_legal hlight b i (hin ▸ hi)
  have hcmd : decodeCommand (cmdNow (beginTick t)) = .nop := by
    rw [cmdNow_beginTick, cmdNow, hcur]
    exact decodeCommand_lightTick s _
  have hlow : level (beginTick t).cfg (intensityNow (beginTick t)) = false := by
    rw [intensityNow_beginTick, intensityNow, hcur, beginTick_cfg, hcfg]
    exact level_lightTick hlight false
  have hgate : ¬ (beginTick t).isTransmitting = true := by simp [ht, hidle]
  have hstep : step t = .next (endTick (edgeOrTail (beginTick t))) :=
    step_of_select (hcfg ▸ hlegal) hall.inputLegal (select_of_ctl_poll (ht ▸ hctl)) (execPoll_of_nop hcmd)
  rw [edgeOrTail, if_neg hgate] at hstep
  rcases opEdge_cases (beginTick t) with ⟨-, -, heq⟩ | ⟨hother, -⟩
  · rw [heq] at hstep
    generalize hq : emit .start { opSample (beginTick t) with currentLevel := false } = q at hstep
    have hqcfg : q.cfg = s.cfg := hq ▸ hcfg
    have hqin : q.inputs = frameTicks s b := hq ▸ hin
    have hqlow : q.currentLevel = false := hq ▸ rfl
    refine ⟨q, hqcfg, ht ▸ run_one hstep, ?_, ?_, ?_⟩
    · rw [endTick_cfg, opDecStart_cfg, hqcfg]
    · rw [endTick_inputs, opDecStart_inputs, hqin, List.drop_one]
    · rw [endTick_currentLevel, opDecStart_currentLevel, hqlow]
  · rw [hlow] at hother
    simp [ht, hprev] at hother

/-- R112: a guard sample at `T_HALF` into the start segment reads low. -/
theorem Decoding.step_guard {t : State} (h : Decoding s b (tHalf s.cfg) t) (hctl : t.ctl = .rxGuard)
    (ht : t.timer = 0) : ∃ u : State, core.run 1 t = .next u ∧ Decoding s b (tHalf s.cfg + 1) u ∧
      u.timer = s.cfg.tBit - 1 ∧ u.ctl = .rxData ∧ u.rxIdx = t.rxIdx ∧ u.rxShift = t.rxShift := by
  have hlow : Machine.level t.cfg (intensityNow t) = false :=
    h.level hlight (k := 0) (by simp) (by decide) (tHalf_lt hlegal)
  have hstep := step_of_select (s := t) (i := .decGuard) (h.cfg ▸ hlegal) (h.legalInputs hlight).inputLegal
    (by simp [select, hctl, ht]) (congrArg Host.Outcome.next (opDecGuard_of_low (s := beginTick t) hlow))
  exact ⟨_, run_one hstep, h.endTick rfl rfl rfl, by simp [h.cfg], rfl, rfl, rfl⟩

/-- R111: with the guard and without it the first sample is due `T_HALF` into segment 1. -/
theorem run_toFirstSample (hctl : s.ctl = .poll) (hidle : s.isTransmitting = false) (hprev : s.previousLevel = true)
    (hnil : s.inputs = []) :
    ∃ t : State, core.run (s.cfg.tBit + tHalf s.cfg) (opFrame b s) = .next t ∧ SampleDue s b 0 t := by
  obtain ⟨q, hqcfg, hedge, hdec⟩ := run_edge (b := b) hlegal hlight hctl hidle hprev hnil
  have hbit := tBit_pos_of_legal hlegal
  have hhalf := tHalf_pos hlegal
  cases hguard : q.cfg.guardEn with
  | false =>
    rw [opDecStart_of_no_guard hguard] at hedge hdec
    obtain ⟨t, hrun, ht, htimer, htctl, hidx, -⟩ := hdec.run_wait hlegal hlight (by simp) rfl
    have hticks : 1 + (tHalf q.cfg + q.cfg.tBit - 1) = s.cfg.tBit + tHalf s.cfg := by rw [hqcfg]; omega
    refine ⟨t, hticks ▸ run_add hedge hrun, ?_, htctl, htimer, by rw [hidx]; rfl, nofun⟩
    rw [Nat.zero_add, Nat.one_mul, ← hticks]
    exact ht
  | true =>
    rw [opDecStart_of_guard hguard] at hedge hdec
    obtain ⟨r, hrun, hr, hrtimer, hrctl, hridx, -⟩ := hdec.run_wait hlegal hlight (by simp) rfl
    have hhalfTicks : 1 + (tHalf q.cfg - 1) = tHalf s.cfg := by rw [hqcfg]; omega
    replace hr : Decoding s b (tHalf s.cfg) r := hhalfTicks ▸ hr
    obtain ⟨u, hone, hu, hutimer, huctl, huidx, -⟩ := hr.step_guard hlegal hlight hrctl hrtimer
    obtain ⟨t, hrun', ht, htimer, htctl, hidx, -⟩ :=
      hu.run_wait hlegal hlight (by rw [huctl]; decide) hutimer.symm
    have hticks : tHalf s.cfg + 1 + (s.cfg.tBit - 1) = s.cfg.tBit + tHalf s.cfg := by omega
    have hall := run_add (run_add (run_add hedge hrun) hone) hrun'
    refine ⟨t, ?_, ?_, htctl.trans huctl, htimer, by rw [hidx, huidx, hridx]; rfl, nofun⟩
    · rw [← hticks, ← hhalfTicks]
      exact hall
    · rw [Nat.zero_add, Nat.one_mul, ← hticks]
      exact ht

/-- R114: a due sample reads bit `i` of the unit, and the bits below it stay. -/
theorem SampleDue.sampled {i : Nat} {t : State} (h : SampleDue s b i t) (hi : i < 8) :
    ∀ j < i + 1, (writeBit t.rxShift t.rxIdx (level t.cfg (intensityNow t))).getLsbD j = b.getLsbD j := by
  intro j hj
  have hlevel : level t.cfg (intensityNow t) = b.getLsbD i :=
    (h.decoding.level hlight rfl (by omega) (tHalf_lt hlegal)).trans (segLevel_of_data b (by omega) hi)
  rw [writeBit_getLsbD _ _ _ _ (by omega), h.idx, hlevel]
  split
  · simp [*]
  · exact h.bits j (by omega)

/-- R114: T_BIT ticks after a sample the next operation of the decode is due, with one bit more of the unit. -/
theorem SampleDue.run_bit {i : Nat} {t : State} (h : SampleDue s b i t) (hi : i < 8) :
    ∃ u : State, core.run s.cfg.tBit t = .next u ∧ Decoding s b ((i + 2) * s.cfg.tBit + tHalf s.cfg) u ∧ u.timer = 0 ∧
      u.ctl = (opDecSample (beginTick t)).ctl ∧ u.rxIdx = (opDecSample (beginTick t)).rxIdx ∧
      ∀ j < i + 1, u.rxShift.getLsbD j = b.getLsbD j := by
  have hbit := tBit_pos_of_legal hlegal
  have hticks : 1 + (s.cfg.tBit - 1) = s.cfg.tBit := by omega
  have hsum : (i + 1) * s.cfg.tBit + tHalf s.cfg + 1 + (s.cfg.tBit - 1) = (i + 2) * s.cfg.tBit + tHalf s.cfg := by
    rw [Nat.succ_mul (i + 1)]
    omega
  have hstep := step_of_select (s := t) (i := .decSample) (h.decoding.cfg ▸ hlegal)
    (h.decoding.legalInputs hlight).inputLegal (by simp [select, h.ctl, h.timer]) rfl
  have hafter : Decoding s b _ (endTick (opDecSample (beginTick t))) :=
    h.decoding.endTick (by simp) (by simp) (by simp)
  have hctl : (opDecSample (beginTick t)).ctl ≠ .poll := by
    rcases opDecSample_ctl (beginTick t) with ⟨-, hsame⟩ | ⟨-, htrail⟩
    · rw [hsame, beginTick_ctl, h.ctl]
      decide
    · rw [htrail]
      decide
  obtain ⟨u, hrun, hu, htimer, huctl, hidx, hshift⟩ := hafter.run_wait hlegal hlight hctl
    (m := s.cfg.tBit - 1) (by simp [h.decoding.cfg])
  refine ⟨u, hticks ▸ run_add (run_one hstep) hrun, hsum ▸ hu, htimer, huctl, hidx, ?_⟩
  rw [hshift, endTick_rxShift, opDecSample_rxShift]
  exact h.sampled hlegal hlight hi

theorem SampleDue.run_next {i : Nat} {t : State} (h : SampleDue s b i t) (hi : i < 7) :
    ∃ u : State, core.run s.cfg.tBit t = .next u ∧ SampleDue s b (i + 1) u := by
  have hlt : (beginTick t).rxIdx.val < 7 := h.idx ▸ hi
  obtain ⟨u, hrun, hu, htimer, hctl, hidx, hbits⟩ := h.run_bit hlegal hlight (by omega)
  rw [opDecSample_of_lt hlt] at hctl hidx
  refine ⟨u, hrun, hu, hctl.trans h.ctl, htimer, ?_, hbits⟩
  rw [hidx]
  exact (Fin.val_add_one_of_lt (Fin.lt_def.mpr hlt)).trans (congrArg (· + 1) h.idx)

/-- The eighth sample completes the unit. -/
theorem SampleDue.run_last {t : State} (h : SampleDue s b 7 t) :
    ∃ u : State, core.run s.cfg.tBit t = .next u ∧ ReturnDue s b u := by
  have hlast : ¬ (beginTick t).rxIdx.val < 7 := by simp [h.idx]
  obtain ⟨u, hrun, hu, htimer, hctl, -, hbits⟩ := h.run_bit hlegal hlight (by decide)
  rw [opDecSample_of_last hlast] at hctl
  exact ⟨u, hrun, hu, hctl, htimer, BitVec.eq_of_getLsbD_eq hbits⟩

/-- R117: sample `i` is due `(i + 1) T_BIT + T_HALF` ticks after the edge tick. -/
theorem run_toSample (hctl : s.ctl = .poll) (hidle : s.isTransmitting = false) (hprev : s.previousLevel = true)
    (hnil : s.inputs = []) {i : Nat} (hi : i < 8) :
    ∃ t : State, core.run ((i + 1) * s.cfg.tBit + tHalf s.cfg) (opFrame b s) = .next t ∧ SampleDue s b i t := by
  induction i with
  | zero =>
    rw [Nat.zero_add, Nat.one_mul]
    exact run_toFirstSample hlegal hlight hctl hidle hprev hnil
  | succ i ih =>
    obtain ⟨t, hrun, ht⟩ := ih (by omega)
    obtain ⟨u, hrun', hu⟩ := ht.run_next hlegal hlight (by omega)
    refine ⟨u, ?_, hu⟩
    rw [Nat.succ_mul (i + 1), Nat.add_right_comm]
    exact run_add hrun hrun'

end

/-! ### The return -/

/-- The delivery and the tail keep the decoded unit. -/
theorem opTail_opDeliver_rxShift (s : State) : (opTail (opDeliver s)).rxShift = s.rxShift := by
  have hkeep {p q : State} (h : ReceivesNothing p q) : q.rxShift = p.rxShift := by
    have hregs := h.registers
    simp only [receiver, Prod.mk.injEq] at hregs
    obtain ⟨-, -, hshift, -⟩ := hregs
    exact hshift
  have hdeliver : (opDeliver s).rxShift = s.rxShift := by
    rcases opDeliver_cases s with ⟨-, h⟩ | ⟨-, -, h⟩ | ⟨-, -, h⟩ <;> rw [h]
    · rfl
    · cases hpolicy : s.cfg.policy with
      | idleTimeout =>
        rw [opAppend_of_idleTimeout hpolicy]
        rfl
      | terminator =>
        rw [opAppend_of_terminator hpolicy]
        rcases opCompleteTerm_cases (appended s) with ⟨-, hterm⟩ | ⟨-, hterm⟩ <;> rw [hterm]
        · rfl
        · have happ : (appended s).rxShift = s.rxShift := rfl
          exact (hkeep (completeWith_receivesNothing .term (appended s))).trans happ
  exact (hkeep (opTail_receivesNothing _)).trans hdeliver

/-- R115: the return reports the unit, whatever the delivery and the tail then do. -/
theorem unit_mem_opDecReturn (s : State) : Event.unit s.rxShift ∈ (opDecReturn s).events := by
  obtain ⟨u, hu⟩ := opDeliver_proceeds (returned s)
  have h := hu.trans (opTail_proceeds _)
  exact h.events.subset (List.mem_append_right _ (List.mem_singleton_self _))

/-! ### The obligation -/

/-- Settles O60: the edge, the eight samples and the return, each due where the channel shows the right segment. -/
theorem receivedFrameDecodesToItsUnit : Obligations.ReceivedFrameDecodesToItsUnit := by
  intro s b hlegal hlight hctl hidle hprev hnil
  obtain ⟨t, hrun, ht⟩ := run_toSample (b := b) hlegal hlight hctl hidle hprev hnil (i := 7) (by decide)
  obtain ⟨u, hrun', hu⟩ := ht.run_last hlegal hlight
  have hstep := step_of_select (s := u) (i := .decReturn) (hu.decoding.cfg ▸ hlegal)
    (hu.decoding.legalInputs hlight).inputLegal (by simp [select, hu.ctl, hu.timer]) rfl
  have hticks : (7 + 1) * s.cfg.tBit + tHalf s.cfg + s.cfg.tBit + 1 = s.cfg.tBit / 2 + 9 * s.cfg.tBit + 1 := by
    rw [tHalf]
    omega
  have hall := run_add (run_add hrun hrun') (run_one hstep)
  rw [hticks] at hall
  refine ⟨opFrame b s, endTick (opDecReturn (beginTick u)), rfl, hall, ?_, ?_, ?_⟩
  · exact (opTail_opDeliver_rxShift (returned (beginTick u))).trans hu.unit
  · have hunit := unit_mem_opDecReturn (beginTick u)
    rwa [beginTick_rxShift, hu.unit] at hunit
  · obtain ⟨hlevel, -⟩ := opDecReturn_ctl (beginTick u)
    exact hlevel.trans hu.decoding.low

end Sys2Proof.Machine
